-- ==== Sys2Proof/Word.lean ====
section
/-! DEFINITION. The word types of the TPC (10_state.md R21 gives every width). -/

namespace Sys2Proof

/-- One byte: a PCM sample, a file byte, a ring slot (R70, R91). -/
abbrev Byte := BitVec 8

/-- A command word, a response value, a stream offset (R72, R102, R33). -/
abbrev Word := BitVec 32

/-- A 16-bit name id (R106). -/
abbrev Name := BitVec 16

/-- A Q8.16 playback-rate code `q`, standing for `q / 65536` (R15). -/
abbrev RateCode := BitVec 24

end Sys2Proof
end

