-- ==== Sys2Proof/Config.lean ====
section
/-! DEFINITION. The implementation parameters of 00_scope.md (R9, R10), and the free values that the
spec leaves open, each an `opaque` constant without a body. -/

namespace Sys2Proof

namespace Config

/-- `CHUNK_MAX` (R9): the largest storage read of one refill step. -/
def chunkMax : Nat := 32
/-- `PRIME_CYCLES` (R9): refill cycles PLAY runs before it enables the interrupt. -/
def primeCycles : Nat := 2
/-- `SR_MIN` (R9). -/
def srMin : Nat := 4000
/-- `SR_MAX` (R9). -/
def srMax : Nat := 32000
/-- `PERIOD_MIN` (R9). -/
def periodMin : Nat := 50
/-- `PERIOD_MAX` (R9). -/
def periodMax : Nat := 65535
/-- `RATE_MIN_Q` (R9): the Q8.16 code of 0.3. -/
def rateMinQ : Nat := 19661
/-- `RATE_MAX_Q` (R9): the Q8.16 code of 3.0. -/
def rateMaxQ : Nat := 196608
/-- `RATE_ONE_Q` (R9): the Q8.16 code of 1.0. -/
def rateOneQ : Nat := 65536
/-- `SILENCE` (R9, 90_conflicts.md C2): the duty value of underrun, mute and stop. -/
def silence : Byte := 127
/-- `CENTER` (R9, C2): the attenuation pivot. -/
def center : Int := 128
/-- `VOL_MAX` (R9): the level without attenuation. -/
def volMax : Nat := 8
/-- The largest 32-bit offset, `2^32 - 1` (R71). -/
def offsetMax : Nat := 4294967295

end Config

/-- The OPEN parameters of R9 together with the bounds of R10: a configuration outside the bounds
cannot be built, which is how the model refuses it (`Params.check`). -/
structure Params where
  /-- `BUF_CAP`, the ring capacity C. -/
  bufCap : Nat
  /-- `MARGIN`, the free space the refill loop leaves. -/
  margin : Nat
  /-- `TIMER_CLK_HZ`, the timer count frequency. -/
  timerClkHz : Nat
  bufCap_pos : 1 ≤ bufCap
  bufCap_le : bufCap ≤ 65536
  margin_lt : margin < bufCap
  timerClk_pos : 1 ≤ timerClkHz
  timerClk_le : timerClkHz ≤ 4294967295
  deriving DecidableEq, Repr

/-- R10: a configuration is accepted when it meets the bounds, and refused (`none`) otherwise. -/
def Params.check (bufCap margin timerClkHz : Nat) : Option Params :=
  if h : 1 ≤ bufCap ∧ bufCap ≤ 65536 ∧ margin < bufCap ∧ 1 ≤ timerClkHz ∧ timerClkHz ≤ 4294967295 then
    some ⟨bufCap, margin, timerClkHz, h.1, h.2.1, h.2.2.1, h.2.2.2.1, h.2.2.2.2⟩
  else none

namespace Config

/-- Free: selects `BUF_CAP` (OPEN in R9; log 1). -/
opaque freeBufCap : Nat
/-- Free: selects `MARGIN` (OPEN in R9; log 1). -/
opaque freeMargin : Nat
/-- Free: selects `TIMER_CLK_HZ` (OPEN in R9; log 1). -/
opaque freeTimerClkHz : Nat

/-- The configuration of the machine that `State.reset` describes: an unknown one within the bounds
of R10. Every configuration of R10 is the value for some choice of the three free numbers. -/
def params : Params where
  bufCap := freeBufCap % 65536 + 1
  margin := freeMargin % (freeBufCap % 65536 + 1)
  timerClkHz := freeTimerClkHz % 4294967295 + 1
  bufCap_pos := by omega
  bufCap_le := by omega
  margin_lt := Nat.mod_lt _ (by omega)
  timerClk_pos := by omega
  timerClk_le := by omega

/-- Free: the storage contents (R80: a parameter of the model; log 2). -/
opaque freeFiles : List (Name × List Byte)

/-- The storage contents of the machine that `State.reset` describes: unknown, each file at most
`2^32 - 1` bytes long (R71). -/
def files : List (Name × List Byte) :=
  freeFiles.map fun f => (f.1, f.2.take offsetMax)

/-- Free: `duty` after reset, before the first write (R45, R341, U1; log 3). -/
opaque dutyAtReset : Byte

/-- Free: what slot `a` of the ring storage reads as while nothing has written it
(R39, R341, U2; log 4). -/
opaque unwrittenSlot : Nat → Byte

/-- Free: the number of timer steps of the `n`-th undetermined interval (R314(b), U5; log 5). -/
opaque freeTimerSteps : Nat → Nat

/-- Free: whether the `n`-th undetermined `StOpen` of an existing file succeeds (R81, U3; log 6). -/
opaque freeOpenOk : Nat → Bool

/-- Free: the most bytes the device delivers at the `n`-th undetermined `StRead` (R82, U4; log 6). -/
opaque freeReadCount : Nat → Nat

end Config

end Sys2Proof
end

