-- ==== Sys2Proof/Syntax.lean ====
section
/-! DEFINITION. The TPC command set, version 1 (30_encoding.md R102 to R105): one constructor for each
row of spec/opcode_table.json. Below it, the assembler's lines (R114, R115). -/

namespace Sys2Proof

/-- One command (R105). The operand widths are those of the formats of R102, so every term stands for
exactly one command word. -/
inductive Instr where
  /-- NOP, format Z (R231). -/
  | nop
  /-- BEGIN sel, format I8 (R232). -/
  | begin (sel : BitVec 8)
  /-- PLAY name, format I16 (R233). -/
  | play (name : Name)
  /-- STOP, format Z (R258). -/
  | stop
  /-- PAUSE mute, format B1 (R254). -/
  | pause (mute : Bool)
  /-- RESUME, format Z (R256). -/
  | resume
  /-- UPDATE, format Z (R244). -/
  | update
  /-- SET_VOLUME v, format I8 (R214). -/
  | setVolume (v : BitVec 8)
  /-- SET_RATE q, format Q24 (R184). -/
  | setRate (q : RateCode)
  /-- SET_ARG idx, v, format A (R186). -/
  | setArg (idx : BitVec 2) (v : BitVec 24)
  /-- SET_SPEED_PULSE p, format I16 (R187). -/
  | setSpeedPulse (p : BitVec 16)
  /-- SET_LOOP b, format B1 (R262). -/
  | setLoop (b : Bool)
  /-- IS_PLAYING, format S, selector 0 (R280). -/
  | isPlaying
  /-- IS_PAUSED, format S, selector 1 (R281). -/
  | isPaused
  /-- GET_SAMPLE_RATE, format S, selector 2 (R282). -/
  | getSampleRate
  /-- GET_BUFFERED, format S, selector 3 (R283). -/
  | getBuffered
  /-- GET_LOOP, format S, selector 4 (R284). -/
  | getLoop
  deriving DecidableEq, Repr

/-- The rate operand of the assembler (R114): a Q8.16 code, or a decimal number, here
`mantissa / 10^digits`. -/
inductive RateOperand where
  | code (q : Nat)
  | decimal (mantissa digits : Nat)
  deriving DecidableEq, Repr

/-- One line of assembler text (R114) or one pseudo-instruction (R115), with its operands as the
numbers the text gives. -/
inductive AsmLine where
  | nop
  | begin (sel : Nat)
  | play (name : Nat)
  | stop
  | pause (mute : Nat)
  /-- `PAUSE` without an operand (R115). -/
  | pauseDefault
  | resume
  | update
  | setVolume (level : Nat)
  | setRate (r : RateOperand)
  | setArg (idx v : Nat)
  | setSpeedPulse (p : Nat)
  | setLoop (b : Nat)
  | isPlaying
  | isPaused
  | getSampleRate
  | getBuffered
  | getLoop
  /-- `QUERY sel` (R114). -/
  | query (sel : Nat)
  /-- `SPEED_FROM_PULSE p, inMin, inMax, rMin, rMax` (R115). -/
  | speedFromPulse (p inMin inMax : Nat) (rMin rMax : RateOperand)
  /-- `PLAY_LOOPED name` (R115). -/
  | playLooped (name : Nat)
  deriving DecidableEq, Repr

end Sys2Proof
end

