-- ==== Sys2Proof/Machine/Operands.lean ====
section
/-! DEFINITION. The arithmetic of the spec on mathematical integers: the primitives of R12, the byte
order of R16, the assembler's rate operand (R114), the rate mapper's functions (R180 to R183, R187)
and the attenuator (R211, R212). No definition here reads or writes the state. -/

namespace Sys2Proof

/-- R114: the Q8.16 code of an assembler rate operand. A decimal `x = mantissa / 10^digits` becomes
`fdiv(2 * x * 65536 + 1, 2)`, computed exactly. -/
def RateOperand.toCode : RateOperand → Nat
  | .code q => q
  | .decimal mantissa digits => (2 * mantissa * 65536 + 10 ^ digits) / (2 * 10 ^ digits)

namespace Machine

/-- R12: `clamp(v, lo, hi)` on integers. -/
def clamp (v lo hi : Int) : Int :=
  if v < lo then lo else if v > hi then hi else v

/-- R12: `clamp(v, lo, hi)` on naturals. -/
def clampNat (v lo hi : Nat) : Nat :=
  if v < lo then lo else if v > hi then hi else v

/-- R12: `fdiv(a, b)`, floor division, for `b > 0`. -/
def fdiv (a b : Int) : Int := Int.fdiv a b

/-- R12: `tdiv(a, b)`, division truncating toward zero, for `b ≠ 0`. -/
def tdiv (a b : Int) : Int := Int.tdiv a b

/-- R12: `asr(v, s)`, the arithmetic right shift of a signed value. -/
def asr (v : Int) (s : Nat) : Int := fdiv v (2 ^ s)

/-- R16: the little-endian value of a byte string, the first byte lowest. On two bytes it is `le16`,
on four bytes `le32`. -/
def littleEndian : List Byte → Nat
  | [] => 0
  | b :: bs => b.toNat + 256 * littleEndian bs

/-- R16: the four bytes of `"RIFF"`. -/
def tagRiff : List Byte := [0x52, 0x49, 0x46, 0x46]
/-- R16: the four bytes of `"WAVE"`. -/
def tagWave : List Byte := [0x57, 0x41, 0x56, 0x45]
/-- R16: the four bytes of `"fmt "`. -/
def tagFmt : List Byte := [0x66, 0x6D, 0x74, 0x20]
/-- R16: the four bytes of `"data"`. -/
def tagData : List Byte := [0x64, 0x61, 0x74, 0x61]

/-- BASE_PERIOD(sr) (R180), a reload value in 49..65534. -/
def basePeriod (cfg : Params) (sampleRate : Nat) : Nat :=
  clampNat (cfg.timerClkHz / clampNat sampleRate Config.srMin Config.srMax)
    Config.periodMin Config.periodMax - 1

/-- CLAMP_RATE(x) (R183). -/
def clampRate (x : Int) : Nat :=
  (clamp x Config.rateMinQ Config.rateMaxQ).toNat

/-- The period `P` of APPLY_RATE (R182): `p1 / (q / 65536)` rounded half up. A rate of 0 is never stored
(R183; log 11). -/
def roundedPeriod (p1 q : Nat) : Nat := (2 * p1 * 65536 + q) / (2 * q)

/-- The reload `r` of APPLY_RATE for the period `p` (R182): clamped, less one. -/
def reloadOfPeriod (p : Nat) : Nat := clampNat p Config.periodMin Config.periodMax - 1

/-- The reload value that APPLY_RATE(q) writes (R182). -/
def reloadOfRate (baseReload q : Nat) : Nat := reloadOfPeriod (roundedPeriod (baseReload + 1) q)

/-- The fraction `t = n / d` of SET_SPEED_PULSE (R187), clamped to `[0, 1]`. -/
def pulseFraction (num den : Int) : Int × Int :=
  if den = 0 then (0, 1)
  else if den > 0 then (clamp num 0 den, den)
  else (clamp (-num) 0 (-den), -den)

/-- The rate code `x` of SET_SPEED_PULSE at the fraction `n / d` (R187), before CLAMP_RATE. -/
def rateAtFraction (rMin rMax n d : Int) : Int := rMin + tdiv ((rMax - rMin) * n) d

/-- The interpolated rate code `x` of SET_SPEED_PULSE (R187), before CLAMP_RATE. -/
def pulseRate (p lo hi rMin rMax : Int) : Int :=
  let t := pulseFraction (p - lo) (hi - lo)
  rateAtFraction rMin rMax t.1 t.2

/-- SHIFT_OF(level) (R211), for a level in 0..8. -/
def shiftOf (level : Nat) : Nat := (Config.volMax - level) / 2

/-- ATTENUATE(x, level) (R212). A level above 8 is never stored (R29); the model then shifts by 0
(DEDUCED, log 11). -/
def attenuate (x : Byte) (level : Nat) : Byte :=
  if level = Config.volMax then x
  else
    let c : Int := (x.toNat : Int) - Config.center
    let y := asr c (shiftOf level) + Config.center
    BitVec.ofInt 8 (clamp y 0 255)

end Machine

end Sys2Proof
end

