-- ==== Sys2Proof/Machine/State.lean ====
section
/-! DEFINITION. The state of the TPC (10_state.md R20, R21), of the storage device that the storage port
reaches (R80) and of the host's side of the command port (R101), with the state after reset (R340). -/

namespace Sys2Proof

namespace Machine

/-- `pstate` (R26), with the encoding Stopped = 0, Playing = 1, Paused = 2; the value 3 is never
written (U7), so the type has no term for it. -/
inductive PState where
  | stopped
  | playing
  | paused
  deriving DecidableEq, Repr

/-- What one segment of a command leaves for the segments after it: the value it assigns to a local
variable of the pseudocode, or the outcome of its test. -/
inductive Answer where
  /-- Nothing: the segment only writes. -/
  | done
  /-- The outcome of a test, or an answer of StOpen (R81). -/
  | flag (b : Bool)
  /-- A natural number. -/
  | number (n : Nat)
  /-- A signed number (R187). -/
  | integer (x : Int)
  /-- The fraction `n / d` of R187. -/
  | fraction (n d : Int)
  /-- The bytes that StRead delivered (R82). -/
  | bytes (b : List Byte)
  deriving DecidableEq, Repr

/-- `seq`, the command sequencer (R25): idle, or running the latched command word `cmd`, with the answers
of the segments that it has completed, the first one first. Their number is the index `k` of the next
segment (`Seq.index`), and they are the values of the pseudocode's local variables. -/
inductive Seq where
  | idle
  | run (cmd : Word) (answers : List Answer)
  deriving DecidableEq, Repr

/-- The status codes of R112. -/
inductive Status where
  | ok
  | openFail
  | formatFail
  | illegal
  deriving DecidableEq, Repr

/-- What the host does next at the command port while the TPC is idle (R101, R86). -/
inductive HostEvent where
  /-- The host offers a command word, `cmd_valid = 1` and `cmd_word = w` (R101, R111), and the next step
  is the whole command, from its acceptance to its `finish` (log 8). -/
  | offer (w : Word)
  /-- The host offers a command word and the next step is its acceptance alone (R111, R314 (4)). Each
  segment is then a step of its own (R314 (3); log 8). -/
  | accept (w : Word)
  /-- The host moves the open file's cursor (R86). -/
  | moveCursor (pos : Word)
  /-- The host offers nothing: `cmd_valid = 0`. -/
  | wait
  deriving DecidableEq, Repr

/-- Byte storage: a list of (address, byte) pairs. An address that is not listed holds no written byte. -/
abbrev Memory := List Host.Cell

/-- The canonical form of a memory: addresses strictly rising. A listed byte always differs from what an
unlisted address holds, which is no byte at all. -/
def Memory.wf (m : Memory) : Bool := decide (m.Pairwise fun x y => x.1 < y.1)

/-- The machine (R20). The fields from `arg0` to `rb` are the registers S1 to S31 and the ring storage of
R21; `cfg` and `files` are the parameters of R20, fixed for a machine; the rest are the storage device,
the ports and the model's own fields. -/
structure State where
  /-- The configuration (R9). -/
  cfg : Params
  /-- The storage contents `Files` (R80). -/
  files : List (Name × List Byte)
  /-- S1 `ARG[0]` (R22, R23). -/
  arg0 : BitVec 24
  /-- S2 `ARG[1]` (R22, R23). -/
  arg1 : BitVec 24
  /-- S3 `ARG[2]` (R22, R23). -/
  arg2 : BitVec 24
  /-- S4 `ARG[3]` (R22, R23). -/
  arg3 : BitVec 24
  /-- S5 `respStatus` (R24). -/
  respStatus : BitVec 4
  /-- S6 `respValue` (R24). -/
  respValue : Word
  /-- S7 `busy` (R24). -/
  busy : Bool
  /-- S8 `seq` (R25). -/
  seq : Seq
  /-- S9 `pstate` (R26). -/
  pstate : PState
  /-- S10 `loopFlag` (R27). -/
  loopFlag : Bool
  /-- S11 `nameReg` (R28). -/
  nameReg : Name
  /-- S12 `nameValid` (R28). -/
  nameValid : Bool
  /-- S13 `volume` (R29). -/
  volume : BitVec 4
  /-- S14 `rateQ` (R30). -/
  rateQ : RateCode
  /-- S15 `storageSel` (R31). -/
  storageSel : BitVec 8
  /-- S16 `streamActive` (R32). -/
  streamActive : Bool
  /-- S17 `dataStart` (R33). -/
  dataStart : Word
  /-- S18 `dataSize` (R33). -/
  dataSize : Word
  /-- S19 `dataPos` (R34). -/
  dataPos : Word
  /-- S20 `sampleRate` (R35). -/
  sampleRate : Word
  /-- S21 `eod` (R36). -/
  eod : Bool
  /-- S22 `rd` (R37). -/
  rd : BitVec 16
  /-- S23 `wr` (R37). -/
  wr : BitVec 16
  /-- S24 `count` (R37). -/
  count : BitVec 17
  /-- S25 `baseReload` (R40). -/
  baseReload : BitVec 16
  /-- S26 `reloadReg` (R41). -/
  reloadReg : BitVec 16
  /-- S27 `reloadActive` (R42). -/
  reloadActive : BitVec 16
  /-- S28 `tcnt` (R43). -/
  tcnt : BitVec 16
  /-- S29 `TF` (R44). -/
  tf : Bool
  /-- S30 `IE` (R44). -/
  ie : Bool
  /-- S31 `duty` (R45), driven on the `pwm_duty` port (R101). -/
  duty : Byte
  /-- The ring storage `RB[0..C-1]` (R39, R70). -/
  rb : Memory
  /-- The storage device's open file, if any (R80). -/
  openFile : Option Name
  /-- The storage device's cursor `cur` (R71, R80; DESIGN CHOICE at reset, log 9). -/
  cur : Word
  /-- The `resp_valid` pulse (R101): the last step finished a command (DESIGN CHOICE, log 10). -/
  respValid : Bool
  /-- The host's coming actions at the ports, the next first (R101, R86; log 7). -/
  host : List HostEvent
  /-- Timer-step counts already determined for the coming intervals (R314; log 5). -/
  timerScript : List Nat
  /-- `StOpen` answers already determined (R81; log 6). -/
  openScript : List Bool
  /-- `StRead` byte counts already determined (R82; log 6). -/
  readScript : List Nat
  /-- How many free values the run has drawn (log 5, 6). -/
  draws : Nat
  deriving DecidableEq, Repr

/-- The TPC stops nowhere: a failure is a status code in a response (R300 to R305: "none are thrown as
exceptions or abort the process"), so there is no reason for a fault. Having no constructor is safe:
nothing is hidden by a stop (DEDUCED, log 16). -/
inductive Fault : Type
  deriving DecidableEq, Repr

/-- Why a step gives no meaning. -/
inductive Refusal where
  /-- Raised by `exec` for an instruction whose meaning is not modelled yet; no arm raises it now.
  Safe: a refused instruction proves nothing about the hardware. -/
  | notModelled (mnemonic : String)
  deriving DecidableEq, Repr

/-- The state after hardware reset (R21, R340). `duty` is a free byte and no slot of `rb` is written
(R341; log 3, 4). The configuration and the files are unknown parameters (log 1, 2). The host has no
action pending (log 7). -/
def State.reset : State where
  cfg := Config.params
  files := Config.files
  arg0 := 0
  arg1 := 0
  arg2 := 0
  arg3 := 0
  respStatus := 0
  respValue := 0
  busy := false
  seq := .idle
  pstate := .stopped
  loopFlag := false
  nameReg := 0
  nameValid := false
  volume := 8
  rateQ := 65536
  storageSel := 0
  streamActive := false
  dataStart := 0
  dataSize := 0
  dataPos := 0
  sampleRate := 0
  eod := false
  rd := 0
  wr := 0
  count := 0
  baseReload := BitVec.ofNat 16 (basePeriod Config.params 0)
  reloadReg := BitVec.ofNat 16 (basePeriod Config.params 0)
  reloadActive := BitVec.ofNat 16 (basePeriod Config.params 0)
  tcnt := 0
  tf := false
  ie := false
  duty := Config.dutyAtReset
  rb := []
  openFile := none
  cur := 0
  respValid := false
  host := []
  timerScript := []
  openScript := []
  readScript := []
  draws := 0

end Machine

end Sys2Proof
end

