-- ==== Sys2Proof/Machine/Flags.lean ====
section
/-! DEFINITION. The one-bit flags of R46: their writers, and the conditions that the machine computes from
flags. The TPC has no arithmetic condition codes (R46). -/

namespace Sys2Proof

namespace Machine

/-- `IE <- 0` (R234, R254). -/
def disableInterrupt (s : State) : State := { s with ie := false }

/-- `TF <- 0; IE <- 1`, one critical section (R241, R256). -/
def clearPendingAndEnable (s : State) : State := { s with tf := false, ie := true }

/-- `eod <- 1` (R246, R247). -/
def latchEndOfData (s : State) : State := { s with eod := true }

/-- The sample-clock interrupt is enabled and pending (R306). -/
def interruptDue (s : State) : Bool := s.ie && s.tf

/-- EOS_CHECK (R250). -/
def endOfStream (s : State) : Bool :=
  (decide (s.dataSize.toNat ≤ s.dataPos.toNat) || s.eod) && decide (s.count = 0)

/-- The guard of the loop restart (R244, R252). -/
def loopDue (s : State) : Bool := s.loopFlag && s.nameValid

end Machine

end Sys2Proof
end

