-- ==== Sys2Proof/Machine/Ops.lean ====
section
/-! DEFINITION. The shared operations: byte storage, the ring (40_ringbuffer.md), the storage port
(20_memory.md), the sample clock and its interrupt (60_exceptions.md) and the command port
(30_encoding.md). -/

namespace Sys2Proof

namespace Machine

/-! ### Byte storage -/

/-- The byte at address `a`, if it was ever written. -/
def readByte (m : Memory) (a : Nat) : Option Byte :=
  match m with
  | [] => none
  | (x, v) :: rest => if x = a then some v else readByte rest a

/-- The memory with byte `v` at address `a`, kept in canonical form. -/
def writeByte (m : Memory) (a : Nat) (v : Byte) : Memory :=
  match m with
  | [] => [(a, v)]
  | (x, u) :: rest =>
    if x < a then (x, u) :: writeByte rest a v
    else if x = a then (a, v) :: rest
    else (a, v) :: (x, u) :: rest

/-! ### The ring -/

/-- `RB[i]` (R13, R70). A slot that nothing has written holds a free byte (R39). -/
def ringRead (s : State) (i : Nat) : Byte := (readByte s.rb i).getD (Config.unwrittenSlot i)

/-- `RB[i] <- v` (R13, R70). The ring has no slot at or above C, and no reachable state names one
(R38); such a write changes nothing (DEDUCED, log 11). -/
def ringWrite (i : Nat) (v : Byte) (s : State) : State :=
  if i < s.cfg.bufCap then { s with rb := writeByte s.rb i v } else s

/-- `mod(i + 1, C)`, the index after `i` (R133, R134). -/
def ringNext (cfg : Params) (i : BitVec 16) : BitVec 16 :=
  BitVec.ofNat 16 ((i.toNat + 1) % cfg.bufCap)

/-- PUSH(v) (R133): true for Accepted, false for Rejected. -/
def push (v : Byte) (s : State) : Bool × State :=
  if s.count.toNat < s.cfg.bufCap then
    let s := ringWrite s.wr.toNat v s
    (true, { s with wr := ringNext s.cfg s.wr, count := BitVec.ofNat 17 (s.count.toNat + 1) })
  else (false, s)

/-- `for i in 0 .. k-1: PUSH(b[i])` (R246). -/
def pushAll (bytes : List Byte) (s : State) : State :=
  match bytes with
  | [] => s
  | b :: rest => pushAll rest (push b s).2

/-- POP() (R134): the byte, or `none` for Empty. -/
def pop (s : State) : Option Byte × State :=
  if s.count.toNat > 0 then
    (some (ringRead s s.rd.toNat),
      { s with rd := ringNext s.cfg s.rd, count := BitVec.ofNat 17 (s.count.toNat - 1) })
  else (none, s)

/-- RING_RESET() (R135). -/
def ringReset (s : State) : State := { s with rd := 0, wr := 0, count := 0 }

/-! ### The sample clock and its interrupt -/

/-- TICK() (R307): pop a byte or take silence, attenuate it, drive it out. -/
def tick (s : State) : State :=
  let r := pop s
  { r.2 with duty := attenuate (r.1.getD Config.silence) r.2.volume.toNat }

/-- INTERRUPT_ENTRY() (R306), the one exception of the TPC: it is taken when enabled and pending, clears
`TF` and runs TICK. It saves nothing, changes no mode or mask, and returns to the next segment by
itself (R309, R313). -/
def interruptEntry (s : State) : State :=
  if interruptDue s then tick { s with tf := false } else s

/-- TIMER_STEP() (R310; log 17). -/
def timerStep (s : State) : State :=
  if s.tcnt = s.reloadActive then { s with tcnt := 0, reloadActive := s.reloadReg, tf := true }
  else { s with tcnt := BitVec.ofNat 16 (s.tcnt.toNat + 1) }

/-- `n` timer steps with the interrupt open: it is taken as soon as it is due (R306, R314(a)). -/
def runTimer (n : Nat) (s : State) : State :=
  match n with
  | 0 => s
  | n + 1 => runTimer n (interruptEntry (timerStep s))

/-- `n` timer steps with the interrupt held off by a critical section (R73, R315). -/
def holdTimer (n : Nat) (s : State) : State :=
  match n with
  | 0 => s
  | n + 1 => holdTimer n (timerStep s)

/-- The number of timer steps of the next interval: determined by the script, else free (R314(b)). -/
def drawTimerSteps (s : State) : Nat × State :=
  match s.timerScript with
  | n :: rest => (n, { s with timerScript := rest })
  | [] => (Config.freeTimerSteps s.draws, { s with draws := s.draws + 1 })

/-- The time between two segments, or while the TPC is idle: a due interrupt is taken first, then
timer steps pass (R306, R314). -/
def gap (s : State) : State :=
  let d := drawTimerSteps s
  runTimer d.1 (interruptEntry d.2)

/-- Time inside a critical section: timer steps pass and the interrupt waits (R73). -/
def hold (s : State) : State :=
  let d := drawTimerSteps s
  holdTimer d.1 d.2

/-! ### The storage port -/

/-- The contents of a name's file, if the name is in the map (R80). -/
def lookupFile (files : List (Name × List Byte)) (name : Name) : Option (List Byte) :=
  match files with
  | [] => none
  | (n, bytes) :: rest => if n = name then some bytes else lookupFile rest name

/-- The bytes of the open file; none are readable while no file is open (log 11). -/
def openBytes (s : State) : List Byte :=
  match s.openFile with
  | some name => (lookupFile s.files name).getD []
  | none => []

/-- The device's answer for an existing file (R81): determined by the script, else free. -/
def drawOpenOk (s : State) : Bool × State :=
  match s.openScript with
  | b :: rest => (b, { s with openScript := rest })
  | [] => (Config.freeOpenOk s.draws, { s with draws := s.draws + 1 })

/-- StOpen(name) (R81). -/
def stOpen (name : Name) (s : State) : Bool × State :=
  match lookupFile s.files name with
  | none => (false, s)
  | some _ =>
    let d := drawOpenOk s
    if d.1 then (true, { d.2 with openFile := some name, cur := 0 }) else (false, d.2)

/-- The most bytes the device delivers now (R82): determined by the script, else free. -/
def drawReadCount (s : State) : Nat × State :=
  match s.readScript with
  | k :: rest => (k, { s with readScript := rest })
  | [] => (Config.freeReadCount s.draws, { s with draws := s.draws + 1 })

/-- StRead(n) (R82): `k` bytes from the cursor on, for a device-chosen `k ≤ min(n, avail)`. -/
def stRead (n : Nat) (s : State) : List Byte × State :=
  let d := drawReadCount s
  let bytes := ((openBytes s).drop s.cur.toNat).take (min n d.1)
  (bytes, { d.2 with cur := BitVec.ofNat 32 (s.cur.toNat + bytes.length) })

/-- StSeek(pos) (R83). -/
def stSeek (pos : Nat) (s : State) : State := { s with cur := BitVec.ofNat 32 pos }

/-- StTell() (R84). -/
def stTell (s : State) : Nat := s.cur.toNat

/-- StClose() (R85). -/
def stClose (s : State) : State := { s with openFile := none }

/-! ### The command port -/

/-- The code of a status in `respStatus` (R112). -/
def statusCode : Status → BitVec 4
  | .ok => 0
  | .openFail => 1
  | .formatFail => 2
  | .illegal => 3

/-- The 2-bit encoding of `pstate` (R26). -/
def pstateCode : PState → BitVec 2
  | .stopped => 0
  | .playing => 1
  | .paused => 2

/-- `cmd_ready = not busy` (R101). -/
def cmdReady (s : State) : Bool := !s.busy

/-- `pwm_duty`, continuously driven by `duty` (R101). -/
def pwmDuty (s : State) : Byte := s.duty

/-- Acceptance of a command word (R111). -/
def acceptWord (w : Word) (s : State) : State :=
  { s with busy := true, seq := .run w [], respValid := false }

/-- `finish(status, value)` (R112), the last segment of a command. -/
def finish (st : Status) (v : Word) (s : State) : State :=
  { s with respStatus := statusCode st, respValue := v, respValid := true,
           busy := false, seq := .idle }

/-- The host moves the open file's cursor while the TPC is idle (R86). -/
def hostMoveCursor (pos : Word) (s : State) : State :=
  { s with cur := if s.openFile.isSome then pos else s.cur, respValid := false }

/-- Time passes without an application-context step. -/
def passTime (s : State) : State := gap { s with respValid := false }

end Machine

end Sys2Proof
end

