-- ==== Sys2Proof/Machine/Code.lean ====
section
/-! DEFINITION. Commands as sequences of atomic segments (00_scope.md R14), and how the other agents
interleave with them (R314).

A command is a value of `Code`: each of its segments has an effect and an answer, and the answers choose
what follows. A pseudocode statement is one segment: an assignment, to a register or to a local variable,
a test with the single statement it may guard, a storage access, a `finish`, and each `atomic` block as a
whole. A call, a `return` and a loop's head take no segment of their own (DEDUCED, log 13; the
exceptions are a DESIGN CHOICE, log 18).

Before each segment stands `gap`: an unknown number of timer steps passes, and the interrupt is taken
whenever it is enabled and pending. Inside an `atomic` block timer steps may pass as well, but the
interrupt waits (R73, R315). The numbers of timer steps, which the spec leaves free, choose the
interleaving (log 5). -/

namespace Sys2Proof

namespace Machine

/-- A sequence of segments that ends with a result: the pseudocode of a command or of a procedure. -/
inductive Code (α : Type) where
  | ret (a : α)
  | seg (effect : State → Answer × State) (next : Answer → Code α)

/-! ### The answers -/

/-- The outcome of a test. -/
def Answer.isSet : Answer → Bool
  | .flag b => b
  | _ => false

/-- The number of an answer that is one. -/
def Answer.asNumber : Answer → Nat
  | .number n => n
  | _ => 0

/-- The signed number of an answer that is one. -/
def Answer.asInteger : Answer → Int
  | .integer x => x
  | _ => 0

/-- The fraction of an answer that is one. -/
def Answer.asFraction : Answer → Int × Int
  | .fraction n d => (n, d)
  | _ => (0, 1)

/-- The bytes of an answer that is some. -/
def Answer.asBytes : Answer → List Byte
  | .bytes b => b
  | _ => []

/-! ### Putting segments together -/

/-- One procedure after another, with the first one's result. -/
def Code.bind {α β : Type} (c : Code α) (rest : α → Code β) : Code β :=
  match c with
  | .ret a => rest a
  | .seg effect next => .seg effect fun a => (next a).bind rest

/-- One procedure after another. -/
def Code.andThen {α β : Type} (c : Code α) (rest : Code β) : Code β := c.bind fun _ => rest

/-- A statement that writes (R14). -/
def Code.write (f : State → State) : Code Unit :=
  .seg (fun s => (.done, f s)) fun _ => .ret ()

/-- A critical section `atomic { f }`: one segment, in which timer steps pass and the interrupt waits
(R14, R73). -/
def Code.atomic (f : State → State) : Code Unit := .write fun s => hold (f (hold s))

/-- An assignment to a local variable that never takes another value at this point of the program. -/
def Code.assign : Code Unit := .write id

/-- A test. -/
def Code.ask (test : State → Bool) : Code Bool :=
  .seg (fun s => (.flag (test s), s)) fun a => .ret a.isSet

/-- A test that guards a single statement. The result is the test's outcome. -/
def Code.when (test : State → Bool) (f : State → State) : Code Bool :=
  .seg (fun s => (.flag (test s), if test s then f s else s)) fun a => .ret a.isSet

/-- An assignment of a natural number to a local variable. -/
def Code.number (v : State → Nat) : Code Nat :=
  .seg (fun s => (.number (v s), s)) fun a => .ret a.asNumber

/-- An assignment of a signed number to a local variable. -/
def Code.integer (x : Int) : Code Int :=
  .seg (fun s => (.integer x, s)) fun a => .ret a.asInteger

/-- An assignment of a fraction to the local variables `(n, d)` (R187). -/
def Code.fraction (t : Int × Int) : Code (Int × Int) :=
  .seg (fun s => (.fraction t.1 t.2, s)) fun a => .ret a.asFraction

/-- `StOpen(name)` (R81). -/
def Code.openFile (name : State → Name) : Code Bool :=
  .seg (fun s => let r := stOpen (name s) s; (.flag r.1, r.2)) fun a => .ret a.isSet

/-- `StRead(n)` (R82). -/
def Code.read (n : Nat) : Code (List Byte) :=
  .seg (fun s => let r := stRead n s; (.bytes r.1, r.2)) fun a => .ret a.asBytes

/-- `finish(status, value)` (R112), the last segment of a command. -/
def Code.finish (st : Status) (v : State → Word) : Code Unit :=
  .write fun s => Machine.finish st (v s) s

/-! ### Running segments -/

/-- `k`, the index of the next segment (R25). -/
def Seq.index : Seq → Nat
  | .idle => 0
  | .run _ answers => answers.length

/-- The sequencer moves on by the segment that gave the answer (R25). After `finish` it stays idle. -/
def advanceSeq (a : Answer) (s : State) : State :=
  { s with seq := match s.seq with
                  | .idle => .idle
                  | .run cmd answers => .run cmd (answers ++ [a]) }

/-- One application-context step (R314 (3)): the time before a segment, then its effect. -/
def segment (effect : State → Answer × State) (s : State) : Answer × State :=
  let r := effect (gap s)
  (r.1, advanceSeq r.1 r.2)

/-- All segments in program order (R111): the result and the state after the last. -/
def Code.run {α : Type} (c : Code α) (s : State) : α × State :=
  match c with
  | .ret a => (a, s)
  | .seg effect next =>
    let r := segment effect s
    (next r.1).run r.2

/-- What is left of the segments after those that gave the answers. -/
def Code.after {α : Type} (c : Code α) (answers : List Answer) : Code α :=
  match answers with
  | [] => c
  | a :: rest =>
    match c with
    | .ret v => .ret v
    | .seg _ next => (next a).after rest

end Machine

end Sys2Proof
end

