-- ==== Sys2Proof/Machine/Attenuator.lean ====
section
/-! DEFINITION. The meaning of SET_VOLUME (43_attenuator.md): its segments and their whole run. -/

namespace Sys2Proof

namespace Machine

open Host

/-- `S.volume <- min(v, 8)` (R214). -/
def writeVolume (v : BitVec 8) (s : State) : State :=
  { s with volume := BitVec.ofNat 4 (min v.toNat Config.volMax) }

/-- SET_VOLUME v (R214). -/
def setVolumeCode (v : BitVec 8) : Code Unit :=
  (Code.atomic (writeVolume v)).andThen <| Code.finish .ok fun _ => 0

/-- The whole of SET_VOLUME (R214). -/
def execSetVolume (v : BitVec 8) (s : State) : Outcome State Fault Refusal :=
  .next ((setVolumeCode v).run s).2

end Machine

end Sys2Proof
end

