-- ==== Sys2Proof/Machine/Parser.lean ====
section
/-! DEFINITION. PARSE, the WAV header parser (41_wav_parser.md), statement by statement. -/

namespace Sys2Proof

namespace Machine

/-- What PARSE answers (R152). -/
inductive ParseResult where
  | ok (dataStart dataSize sampleRate : Word)
  | formatFail
  deriving DecidableEq, Repr

/-- The fields PARSE keeps of the last fmt chunk (R152, R155). -/
structure FmtInfo where
  seen : Bool
  audioFormat : Nat
  channels : Nat
  sampleRate : Nat
  bitsPerSample : Nat
  deriving DecidableEq, Repr

/-- `fmtSeen <- 0; af <- 0; ch <- 0; sr <- 0; bps <- 0` (R152). -/
def noFmt : FmtInfo := ⟨false, 0, 0, 0, 0⟩

/-- READ(n) (R151), then `next` on the bytes. Trunc ends PARSE with FormatFail. -/
def readThen (n : Nat) (next : List Byte → Code ParseResult) : Code ParseResult :=
  (Code.read n).bind fun b => if b.length < n then .ret .formatFail else next b

/-- SKIP(n) (R151), then `next`. Trunc ends PARSE with FormatFail. -/
def skipThen (n : Nat) (next : Code ParseResult) : Code ParseResult :=
  (Code.number fun s => stTell s + n).bind fun p =>
  (Code.when (fun _ => p ≤ Config.offsetMax) (stSeek p)).bind fun ok =>
  if ok then next else .ret .formatFail

/-- The canonical 16-byte body of a fmt chunk and the skip of what follows it (R155, R156). -/
def fmtBodyThen (sz : Nat) (next : FmtInfo → Code ParseResult) : Code ParseResult :=
  readThen 2 fun af =>
  readThen 2 fun ch =>
  readThen 4 fun sr =>
  readThen 4 fun _ =>
  readThen 2 fun _ =>
  readThen 2 fun bps =>
  skipThen (sz - 16) <|
  Code.assign.andThen <|
  next ⟨true, littleEndian af, littleEndian ch, littleEndian sr, littleEndian bps⟩

/-- The four conditions of R160. -/
def FmtInfo.playable (f : FmtInfo) : Bool :=
  f.seen && f.audioFormat == 1 && f.channels == 1 && f.bitsPerSample == 8

/-- The answer at the data chunk (R157, R160). -/
def parseData (f : FmtInfo) (sz : Nat) : Code ParseResult :=
  (Code.number stTell).bind fun start =>
  (Code.ask fun _ => f.playable).bind fun playable =>
  .ret (if playable then
      .ok (BitVec.ofNat 32 start) (BitVec.ofNat 32 sz) (BitVec.ofNat 32 f.sampleRate)
    else .formatFail)

/-- The scan of the chunks (R154 to R161). `fuel` bounds the number of chunks visited (R164). -/
def parseLoop (fuel : Nat) (f : FmtInfo) : Code ParseResult :=
  match fuel with
  | 0 => .ret .formatFail
  | fuel + 1 =>
    readThen 4 fun id =>
    readThen 4 fun size =>
    (Code.ask fun _ => id = tagFmt).bind fun isFmt =>
    if isFmt then
      (Code.ask fun _ => littleEndian size < 16).bind fun short =>
      if short then .ret .formatFail
      else fmtBodyThen (littleEndian size) fun f => parseLoop fuel f
    else
      (Code.ask fun _ => id = tagData).bind fun isData =>
      if isData then parseData f (littleEndian size)
      else skipThen (littleEndian size) (parseLoop fuel f)

/-- The bound of R164 on the number of chunks: `fdiv(2^32, 8) + 1` (DEDUCED, log 12). -/
def parseBound : Nat := 536870913

/-- PARSE() (R152). -/
def parse : Code ParseResult :=
  readThen 4 fun riff =>
  if riff = tagRiff then
    readThen 4 fun _ =>
    readThen 4 fun wave =>
    if wave = tagWave then
      Code.assign.andThen <|
      Code.assign.andThen <|
      Code.assign.andThen <|
      Code.assign.andThen <|
      Code.assign.andThen <|
      parseLoop parseBound noFmt
    else .ret .formatFail
  else .ret .formatFail

end Machine

end Sys2Proof
end

