-- ==== Sys2Proof/Machine/Stream.lean ====
section
/-! DEFINITION. The internal procedures that several commands share: TEARDOWN, APPLY_RATE, REFILL, START
and RESTART (44_playback.md, 42_rate_mapper.md), statement by statement. -/

namespace Sys2Proof

namespace Machine

/-! ### TEARDOWN -/

/-- `S.duty <- SILENCE; S.streamActive <- 0; S.pstate <- Stopped` (R234). -/
def silenceAndStop (s : State) : State :=
  { s with duty := Config.silence, streamActive := false, pstate := .stopped }

/-- TEARDOWN() (R234). -/
def teardown : Code Unit :=
  (Code.atomic disableInterrupt).andThen <|
  (Code.when (fun s => s.streamActive) stClose).andThen <|
  Code.atomic silenceAndStop

/-! ### The rate -/

/-- `S.reloadReg <- r` (R182). -/
def writeReload (r : Nat) (s : State) : State := { s with reloadReg := BitVec.ofNat 16 r }

/-- APPLY_RATE(S.rateQ) (R182, R191). -/
def applyRate : Code Unit :=
  (Code.number fun s => s.baseReload.toNat + 1).bind fun p1 =>
  (Code.number fun s => roundedPeriod p1 s.rateQ.toNat).bind fun p =>
  (Code.number fun _ => reloadOfPeriod p).bind fun r =>
  Code.atomic (writeReload r)

/-- `S.rateQ <- CLAMP_RATE(x)` (R183). -/
def writeRate (x : Int) (s : State) : State := { s with rateQ := BitVec.ofNat 24 (clampRate x) }

/-- `S.baseReload <- BASE_PERIOD(S.sampleRate)` (R180, R241). -/
def writeBaseReload (s : State) : State :=
  { s with baseReload := BitVec.ofNat 16 (basePeriod s.cfg s.sampleRate.toNat) }

/-! ### REFILL -/

/-- The file offset of the next byte to read, `dataStart + dataPos` (R246, R248). -/
def expectedOffset (s : State) : Nat := s.dataStart.toNat + s.dataPos.toNat

/-- The loop condition of REFILL for the occupancy `c` it read (R246). -/
def refillWanted (c : Nat) (s : State) : Bool :=
  decide (c < s.cfg.bufCap - s.cfg.margin) && decide (s.dataPos.toNat < s.dataSize.toNat) && !s.eod

/-- The chunk size `n` for the occupancy `c` (R247). -/
def chunkSize (c : Nat) (s : State) : Nat :=
  min Config.chunkMax (min (s.cfg.bufCap - c) (s.dataSize.toNat - s.dataPos.toNat))

/-- `S.dataPos <- S.dataPos + k` (R247). -/
def advancePos (k : Nat) (s : State) : State :=
  { s with dataPos := BitVec.ofNat 32 (s.dataPos.toNat + k) }

/-- The loop of REFILL (R246, R247). `fuel` bounds its rounds (R249(a)). -/
def refillLoop (fuel : Nat) : Code Unit :=
  match fuel with
  | 0 => .ret ()
  | fuel + 1 =>
    (Code.number fun s => s.count.toNat).bind fun c =>
    (Code.ask fun s => !refillWanted c s).bind fun enough =>
    if enough then .ret ()
    else
      (Code.number (chunkSize c)).bind fun n =>
      (Code.read n).bind fun b =>
      (Code.atomic (pushAll b)).andThen <|
      (Code.write (advancePos b.length)).andThen <|
      (Code.when (fun _ => b.length < n) latchEndOfData).bind fun failed =>
      if failed then .ret () else refillLoop fuel

/-- No stream needs more rounds (R249(a)): `dataSize - dataPos + 1` is at most `2^32` (DEDUCED,
log 12). -/
def refillBound : Nat := 4294967296

/-- REFILL() (R246). -/
def refill : Code Unit :=
  (Code.ask fun s => !s.streamActive).bind fun inactive =>
  if inactive then .ret ()
  else
    (Code.number expectedOffset).bind fun exp =>
    (Code.when (fun _ => Config.offsetMax < exp) latchEndOfData).bind fun beyond =>
    if beyond then .ret ()
    else
      (Code.when (fun s => stTell s ≠ exp) (stSeek exp)).andThen <|
      refillLoop refillBound

/-- `repeat n times: REFILL()` (R233, R239). -/
def refillTimes (n : Nat) : Code Unit :=
  match n with
  | 0 => .ret ()
  | n + 1 => refill.andThen (refillTimes n)

/-! ### START and RESTART -/

/-- The commit of a successful parse (R162, R238). -/
def commitStream (start size rate : Word) (s : State) : State :=
  let s := { s with dataStart := start, dataSize := size, sampleRate := rate,
                    dataPos := 0, eod := false, streamActive := true }
  { ringReset s with pstate := .playing }

/-- What follows the commit in START: priming, clock configuration, enable (R239, R241). -/
def primeAndEnable : Code Unit :=
  (refillTimes Config.primeCycles).andThen <|
  (Code.write writeBaseReload).andThen <|
  applyRate.andThen <|
  Code.atomic clearPendingAndEnable

/-- What follows PARSE in START (R233, R237, R238): the test of its result, then the failure's close, or
`(start, sz, sr) <- r` and the commit. The test and the close it guards take two segments (DESIGN CHOICE,
log 18). -/
def startParsed (r : ParseResult) : Code Status :=
  (Code.ask fun _ => r = .formatFail).andThen <|
  match r with
  | .formatFail => (Code.write stClose).andThen <| .ret .formatFail
  | .ok start size rate =>
    Code.assign.andThen <|
    (Code.atomic (commitStream start size rate)).andThen <|
    primeAndEnable.andThen <|
    .ret .ok

/-- START(name) (R233, R237). -/
def startStream (name : State → Name) : Code Status :=
  (Code.openFile name).bind fun opened =>
  if opened then parse.bind startParsed else .ret .openFail

/-- RESTART() (R252). -/
def restart : Code Status := teardown.andThen <| startStream fun s => s.nameReg

end Machine

end Sys2Proof
end

