-- ==== Sys2Proof/Machine/Playback.lean ====
section
/-! DEFINITION. The meanings of NOP, BEGIN, PLAY, STOP, PAUSE, RESUME, UPDATE and SET_LOOP
(44_playback.md): for each, its segments and their whole run. -/

namespace Sys2Proof

namespace Machine

open Host

/-- NOP (R231). -/
def nopCode : Code Unit := Code.finish .ok fun _ => 0

/-- The whole of NOP (R231). -/
def execNop (s : State) : Outcome State Fault Refusal := .next (nopCode.run s).2

/-- `S.storageSel <- sel` (R232). -/
def writeStorageSel (sel : BitVec 8) (s : State) : State := { s with storageSel := sel }

/-- `S.duty <- SILENCE` (R232, R254). -/
def silenceOutput (s : State) : State := { s with duty := Config.silence }

/-- BEGIN sel (R232). -/
def beginCode (sel : BitVec 8) : Code Unit :=
  (Code.write (writeStorageSel sel)).andThen <|
  (Code.atomic silenceOutput).andThen <|
  Code.finish .ok fun _ => 1

/-- The whole of BEGIN (R232). -/
def execBegin (sel : BitVec 8) (s : State) : Outcome State Fault Refusal :=
  .next ((beginCode sel).run s).2

/-- `S.nameReg <- name` (R236). -/
def writeName (name : Name) (s : State) : State := { s with nameReg := name }

/-- `S.nameValid <- 1` (R236). -/
def markNameValid (s : State) : State := { s with nameValid := true }

/-- PLAY's response value (R112, R233). -/
def playValue (st : Status) : Word := if st = .ok then 1 else 0

/-- PLAY name (R233). -/
def playCode (name : Name) : Code Unit :=
  teardown.andThen <|
  (Code.write (writeName name)).andThen <|
  (Code.write markNameValid).andThen <|
  (startStream fun _ => name).bind fun st =>
  Code.finish st fun _ => playValue st

/-- The whole of PLAY (R233). -/
def execPlay (name : Name) (s : State) : Outcome State Fault Refusal :=
  .next ((playCode name).run s).2

/-- STOP (R258). -/
def stopCode : Code Unit := teardown.andThen <| Code.finish .ok fun _ => 0

/-- The whole of STOP (R258). -/
def execStop (s : State) : Outcome State Fault Refusal := .next (stopCode.run s).2

/-- `S.pstate <- Paused` (R254). -/
def markPaused (s : State) : State := { s with pstate := .paused }

/-- PAUSE m (R254). -/
def pauseCode (mute : Bool) : Code Unit :=
  (Code.ask fun s => s.pstate = .playing).bind fun playing =>
  if playing then
    (Code.atomic disableInterrupt).andThen <|
    (Code.when (fun _ => mute) silenceOutput).andThen <|
    (Code.write markPaused).andThen <|
    Code.finish .ok fun _ => 0
  else Code.finish .ok fun _ => 0

/-- The whole of PAUSE (R254). -/
def execPause (mute : Bool) (s : State) : Outcome State Fault Refusal :=
  .next ((pauseCode mute).run s).2

/-- `S.pstate <- Playing` (R256). -/
def markPlaying (s : State) : State := { s with pstate := .playing }

/-- RESUME (R256). -/
def resumeCode : Code Unit :=
  (Code.ask fun s => s.pstate = .paused).bind fun paused =>
  if paused then
    (Code.write markPlaying).andThen <|
    (Code.atomic clearPendingAndEnable).andThen <|
    Code.finish .ok fun _ => 0
  else Code.finish .ok fun _ => 0

/-- The whole of RESUME (R256). -/
def execResume (s : State) : Outcome State Fault Refusal := .next (resumeCode.run s).2

/-- UPDATE at end of stream (R251, R252): restart or teardown. -/
def endOfStreamCode : Code Unit :=
  (Code.ask loopDue).bind fun looping =>
  if looping then restart.bind fun st => Code.finish st fun _ => 0
  else teardown.andThen <| Code.finish .ok fun _ => 0

/-- UPDATE (R244). Its first line, a test that guards `finish` alone, takes two segments (DESIGN CHOICE,
log 18). -/
def updateCode : Code Unit :=
  (Code.ask fun s => s.pstate ≠ .playing).bind fun idle =>
  if idle then Code.finish .ok fun _ => 0
  else
    (Code.ask endOfStream).bind fun ended =>
    if ended then endOfStreamCode
    else refill.andThen <| Code.finish .ok fun _ => 0

/-- The whole of UPDATE (R244). -/
def execUpdate (s : State) : Outcome State Fault Refusal := .next (updateCode.run s).2

/-- `S.loopFlag <- b` (R262). -/
def writeLoopFlag (b : Bool) (s : State) : State := { s with loopFlag := b }

/-- SET_LOOP b (R262). -/
def setLoopCode (b : Bool) : Code Unit :=
  (Code.write (writeLoopFlag b)).andThen <| Code.finish .ok fun _ => 0

/-- The whole of SET_LOOP (R262). -/
def execSetLoop (b : Bool) (s : State) : Outcome State Fault Refusal :=
  .next ((setLoopCode b).run s).2

end Machine

end Sys2Proof
end

