-- ==== Sys2Proof/Machine/Queries.lean ====
section
/-! DEFINITION. The meanings of the query commands (45_queries.md). A query reads its register and
finishes in one segment (R279). -/

namespace Sys2Proof

namespace Machine

open Host

/-- A truth value as a response value (R280, R281). -/
def boolValue (b : Bool) : Word := if b then 1 else 0

/-- IS_PLAYING (R280). -/
def isPlayingCode : Code Unit := Code.finish .ok fun s => boolValue (s.pstate = .playing)

/-- The whole of IS_PLAYING (R280). -/
def execIsPlaying (s : State) : Outcome State Fault Refusal := .next (isPlayingCode.run s).2

/-- IS_PAUSED (R281). -/
def isPausedCode : Code Unit := Code.finish .ok fun s => boolValue (s.pstate = .paused)

/-- The whole of IS_PAUSED (R281). -/
def execIsPaused (s : State) : Outcome State Fault Refusal := .next (isPausedCode.run s).2

/-- GET_SAMPLE_RATE (R282). -/
def getSampleRateCode : Code Unit := Code.finish .ok fun s => s.sampleRate

/-- The whole of GET_SAMPLE_RATE (R282). -/
def execGetSampleRate (s : State) : Outcome State Fault Refusal := .next (getSampleRateCode.run s).2

/-- GET_BUFFERED (R283). -/
def getBufferedCode : Code Unit := Code.finish .ok fun s => s.count.setWidth 32

/-- The whole of GET_BUFFERED (R283). -/
def execGetBuffered (s : State) : Outcome State Fault Refusal := .next (getBufferedCode.run s).2

/-- GET_LOOP (R284). -/
def getLoopCode : Code Unit := Code.finish .ok fun s => boolValue s.loopFlag

/-- The whole of GET_LOOP (R284). -/
def execGetLoop (s : State) : Outcome State Fault Refusal := .next (getLoopCode.run s).2

end Machine

end Sys2Proof
end

