-- ==== Sys2Proof/Machine/RateMapper.lean ====
section
/-! DEFINITION. The meanings of SET_RATE, SET_ARG and SET_SPEED_PULSE (42_rate_mapper.md): for each, its
segments and their whole run. -/

namespace Sys2Proof

namespace Machine

open Host

/-- SET_RATE q (R184). -/
def setRateCode (q : RateCode) : Code Unit :=
  (Code.write (writeRate q.toNat)).andThen <|
  applyRate.andThen <|
  Code.finish .ok fun _ => 0

/-- The whole of SET_RATE (R184). -/
def execSetRate (q : RateCode) (s : State) : Outcome State Fault Refusal :=
  .next ((setRateCode q).run s).2

/-- `ARG[idx] <- v` (R186). -/
def writeArg (idx : BitVec 2) (v : BitVec 24) (s : State) : State :=
  match idx.toNat with
  | 0 => { s with arg0 := v }
  | 1 => { s with arg1 := v }
  | 2 => { s with arg2 := v }
  | _ => { s with arg3 := v }

/-- SET_ARG idx, v (R186). -/
def setArgCode (idx : BitVec 2) (v : BitVec 24) : Code Unit :=
  (Code.write (writeArg idx v)).andThen <| Code.finish .ok fun _ => 0

/-- The whole of SET_ARG (R186). -/
def execSetArg (idx : BitVec 2) (v : BitVec 24) (s : State) : Outcome State Fault Refusal :=
  .next ((setArgCode idx v).run s).2

/-- SET_SPEED_PULSE p (R187). Bits 23:16 of `ARG[0]` and `ARG[1]` are ignored (R23). -/
def setSpeedPulseCode (p : BitVec 16) : Code Unit :=
  (Code.number fun s => (s.arg0.setWidth 16).toNat).bind fun lo =>
  (Code.number fun s => (s.arg1.setWidth 16).toNat).bind fun hi =>
  (Code.number fun s => s.arg2.toNat).bind fun rMin =>
  (Code.number fun s => s.arg3.toNat).bind fun rMax =>
  (Code.integer (hi - lo)).bind fun den =>
  (Code.integer (p.toNat - lo)).bind fun num =>
  (Code.fraction (pulseFraction num den)).bind fun t =>
  (Code.integer (rateAtFraction rMin rMax t.1 t.2)).bind fun x =>
  (Code.write (writeRate x)).andThen <|
  applyRate.andThen <|
  Code.finish .ok fun _ => 0

/-- The whole of SET_SPEED_PULSE (R187). -/
def execSetSpeedPulse (p : BitVec 16) (s : State) : Outcome State Fault Refusal :=
  .next ((setSpeedPulseCode p).run s).2

end Machine

end Sys2Proof
end

