-- ==== Sys2Proof/Machine/Dispatch.lean ====
section
/-! DEFINITION. The dispatch of an accepted command to its meaning: one arm per constructor of Instr. -/

namespace Sys2Proof

namespace Machine

open Host

-- The command with its whole effect, from its first segment to `finish` (R111, R112).
def exec (i : Instr) (s : State) : Host.Outcome State Fault Refusal :=
  match i with
  | .nop => Sys2Proof.Machine.execNop s
  | .begin sel => Sys2Proof.Machine.execBegin sel s
  | .play name => Sys2Proof.Machine.execPlay name s
  | .stop => Sys2Proof.Machine.execStop s
  | .pause mute => Sys2Proof.Machine.execPause mute s
  | .resume => Sys2Proof.Machine.execResume s
  | .update => Sys2Proof.Machine.execUpdate s
  | .setVolume v => Sys2Proof.Machine.execSetVolume v s
  | .setRate q => Sys2Proof.Machine.execSetRate q s
  | .setArg idx v => Sys2Proof.Machine.execSetArg idx v s
  | .setSpeedPulse p => Sys2Proof.Machine.execSetSpeedPulse p s
  | .setLoop b => Sys2Proof.Machine.execSetLoop b s
  | .isPlaying => Sys2Proof.Machine.execIsPlaying s
  | .isPaused => Sys2Proof.Machine.execIsPaused s
  | .getSampleRate => Sys2Proof.Machine.execGetSampleRate s
  | .getBuffered => Sys2Proof.Machine.execGetBuffered s
  | .getLoop => Sys2Proof.Machine.execGetLoop s

end Machine

end Sys2Proof
end

