-- ==== Sys2Proof/WellFormed.lean ====
section
/-! DEFINITION. Which terms of the syntax the assembler accepts. A term of `Instr` carries its operands
at the widths of R102, and every operand value of those widths is legal (R103, R108), so every `Instr`
is well formed. An assembler line carries plain numbers, and R114 gives each a range. -/

namespace Sys2Proof

/-- Every operand value that the encoding admits is legal (R103, R108): the types of `Instr` hold
exactly the legal operands. -/
def Instr.wellFormed (_ : Instr) : Bool := true

/-- R114: the assembler rejects a rate code that does not fit 24 bits. -/
def RateOperand.wellFormed (r : RateOperand) : Bool := r.toCode < 16777216

/-- R114, R115: each operand lies in its range; the assembler never truncates. -/
def AsmLine.wellFormed : AsmLine → Bool
  | .nop | .stop | .pauseDefault | .resume | .update => true
  | .isPlaying | .isPaused | .getSampleRate | .getBuffered | .getLoop => true
  | .begin sel => sel ≤ 255
  | .play name => name ≤ 65535
  | .pause mute => mute ≤ 1
  | .setVolume level => level ≤ 255
  | .setRate r => r.wellFormed
  | .setArg idx v => idx ≤ 3 && v < 16777216
  | .setSpeedPulse p => p ≤ 65535
  | .setLoop b => b ≤ 1
  | .query sel => sel ≤ 4
  | .speedFromPulse p inMin inMax rMin rMax =>
      p ≤ 65535 && inMin ≤ 65535 && inMax ≤ 65535 && rMin.wellFormed && rMax.wellFormed
  | .playLooped name => name ≤ 65535

end Sys2Proof
end

