-- ==== Sys2Proof/Decode.lean ====
section
/-! DEFINITION. Decoding of command words (R102 to R109), the opcode table of R105, the encoder, and
the assembler's translation of a line into commands (R114, R115). -/

namespace Sys2Proof

/-- Why a command word is illegal: the three grounds of R107. -/
inductive IllegalWord where
  /-- (a) the opcode is 0xD, 0xE or 0xF. -/
  | reservedOpcode
  /-- (b) the opcode is 0xC and the selector is 5 or more. -/
  | reservedSelector
  /-- (c) a reserved bit of the format is 1. -/
  | reservedBits
  deriving DecidableEq, Repr

/-- The opcode field `w[31:28]` (R102). -/
def opcodeOf (w : Word) : Nat := (w.extractLsb' 28 4).toNat

/-- Accepts the command `i` when the reserved bits `w[lo + n - 1 : lo]` are all zero (R104). -/
def withReservedZero (w : Word) (lo n : Nat) (i : Instr) : Except IllegalWord Instr :=
  if w.extractLsb' lo n = 0 then .ok i else .error .reservedBits

/-- The QUERY row that the selector `w[3:0]` chooses (R105, R107). -/
def decodeQuery (w : Word) : Except IllegalWord Instr :=
  match (w.extractLsb' 0 4).toNat with
  | 0 => withReservedZero w 4 24 .isPlaying
  | 1 => withReservedZero w 4 24 .isPaused
  | 2 => withReservedZero w 4 24 .getSampleRate
  | 3 => withReservedZero w 4 24 .getBuffered
  | 4 => withReservedZero w 4 24 .getLoop
  | _ => .error .reservedSelector

/-- The decode function of R109, total on all 32-bit words. -/
def decodeWord (w : Word) : Except IllegalWord Instr :=
  match opcodeOf w with
  | 0x0 => withReservedZero w 0 28 .nop
  | 0x1 => withReservedZero w 8 20 (.begin (w.extractLsb' 0 8))
  | 0x2 => withReservedZero w 16 12 (.play (w.extractLsb' 0 16))
  | 0x3 => withReservedZero w 0 28 .stop
  | 0x4 => withReservedZero w 1 27 (.pause (w.getLsbD 0))
  | 0x5 => withReservedZero w 0 28 .resume
  | 0x6 => withReservedZero w 0 28 .update
  | 0x7 => withReservedZero w 8 20 (.setVolume (w.extractLsb' 0 8))
  | 0x8 => withReservedZero w 24 4 (.setRate (w.extractLsb' 0 24))
  | 0x9 => withReservedZero w 26 2 (.setArg (w.extractLsb' 24 2) (w.extractLsb' 0 24))
  | 0xA => withReservedZero w 16 12 (.setSpeedPulse (w.extractLsb' 0 16))
  | 0xB => withReservedZero w 1 27 (.setLoop (w.getLsbD 0))
  | 0xC => decodeQuery w
  | _ => .error .reservedOpcode

/-- The instruction that an instruction word of `nbits` bits stands for. Command words are 32 bits long
and arrive whole, without a byte order (R89, R102); bits above `nbits` are zero. -/
def decodeTableWord (nbits w : Nat) : Option Instr :=
  if nbits ≤ 32 then
    match decodeWord (BitVec.ofNat 32 (w % 2 ^ nbits)) with
    | .ok i => some i
    | .error _ => none
  else none

/-- The command word with opcode `op` and operand field `v` (R102). -/
def commandWord (op : BitVec 4) (v : BitVec 28) : Word := op ++ v

/-- The command word of an instruction (R102, R105). -/
def encode : Instr → Word
  | .nop => commandWord 0x0 0
  | .begin sel => commandWord 0x1 (sel.setWidth 28)
  | .play name => commandWord 0x2 (name.setWidth 28)
  | .stop => commandWord 0x3 0
  | .pause mute => commandWord 0x4 ((BitVec.ofBool mute).setWidth 28)
  | .resume => commandWord 0x5 0
  | .update => commandWord 0x6 0
  | .setVolume v => commandWord 0x7 (v.setWidth 28)
  | .setRate q => commandWord 0x8 (q.setWidth 28)
  | .setArg idx v => commandWord 0x9 ((idx ++ v).setWidth 28)
  | .setSpeedPulse p => commandWord 0xA (p.setWidth 28)
  | .setLoop b => commandWord 0xB ((BitVec.ofBool b).setWidth 28)
  | .isPlaying => commandWord 0xC 0
  | .isPaused => commandWord 0xC 1
  | .getSampleRate => commandWord 0xC 2
  | .getBuffered => commandWord 0xC 3
  | .getLoop => commandWord 0xC 4

/-- One row of the opcode map of R105. -/
structure OpcodeRow where
  mnemonic : String
  mask : Word
  value : Word
  deriving DecidableEq, Repr

/-- The opcode map of R105. -/
def opcodeTable : List OpcodeRow :=
  [⟨"NOP", 0xFFFFFFFF, 0x00000000⟩,
   ⟨"BEGIN", 0xFFFFFF00, 0x10000000⟩,
   ⟨"PLAY", 0xFFFF0000, 0x20000000⟩,
   ⟨"STOP", 0xFFFFFFFF, 0x30000000⟩,
   ⟨"PAUSE", 0xFFFFFFFE, 0x40000000⟩,
   ⟨"RESUME", 0xFFFFFFFF, 0x50000000⟩,
   ⟨"UPDATE", 0xFFFFFFFF, 0x60000000⟩,
   ⟨"SET_VOLUME", 0xFFFFFF00, 0x70000000⟩,
   ⟨"SET_RATE", 0xFF000000, 0x80000000⟩,
   ⟨"SET_ARG", 0xFC000000, 0x90000000⟩,
   ⟨"SET_SPEED_PULSE", 0xFFFF0000, 0xA0000000⟩,
   ⟨"SET_LOOP", 0xFFFFFFFE, 0xB0000000⟩,
   ⟨"IS_PLAYING", 0xFFFFFFFF, 0xC0000000⟩,
   ⟨"IS_PAUSED", 0xFFFFFFFF, 0xC0000001⟩,
   ⟨"GET_SAMPLE_RATE", 0xFFFFFFFF, 0xC0000002⟩,
   ⟨"GET_BUFFERED", 0xFFFFFFFF, 0xC0000003⟩,
   ⟨"GET_LOOP", 0xFFFFFFFF, 0xC0000004⟩]

/-- A word selects a row when `(w and mask) = match` (R105). -/
def OpcodeRow.selects (r : OpcodeRow) (w : Word) : Bool := w &&& r.mask = r.value

/-- The mnemonic of an instruction's row (R105). -/
def Instr.mnemonic : Instr → String
  | .nop => "NOP"
  | .begin _ => "BEGIN"
  | .play _ => "PLAY"
  | .stop => "STOP"
  | .pause _ => "PAUSE"
  | .resume => "RESUME"
  | .update => "UPDATE"
  | .setVolume _ => "SET_VOLUME"
  | .setRate _ => "SET_RATE"
  | .setArg _ _ => "SET_ARG"
  | .setSpeedPulse _ => "SET_SPEED_PULSE"
  | .setLoop _ => "SET_LOOP"
  | .isPlaying => "IS_PLAYING"
  | .isPaused => "IS_PAUSED"
  | .getSampleRate => "GET_SAMPLE_RATE"
  | .getBuffered => "GET_BUFFERED"
  | .getLoop => "GET_LOOP"

/-- The query command of a selector (R105); selectors above 4 name none. -/
def queryOf : Nat → Option Instr
  | 0 => some .isPlaying
  | 1 => some .isPaused
  | 2 => some .getSampleRate
  | 3 => some .getBuffered
  | 4 => some .getLoop
  | _ => none

/-- The commands that a well-formed assembler line stands for: one, or the expansion of a
pseudo-instruction (R114, R115). -/
def expandLine : AsmLine → List Instr
  | .nop => [.nop]
  | .begin sel => [.begin (BitVec.ofNat 8 sel)]
  | .play name => [.play (BitVec.ofNat 16 name)]
  | .stop => [.stop]
  | .pause mute => [.pause (mute == 1)]
  | .pauseDefault => [.pause true]
  | .resume => [.resume]
  | .update => [.update]
  | .setVolume level => [.setVolume (BitVec.ofNat 8 level)]
  | .setRate r => [.setRate (BitVec.ofNat 24 r.toCode)]
  | .setArg idx v => [.setArg (BitVec.ofNat 2 idx) (BitVec.ofNat 24 v)]
  | .setSpeedPulse p => [.setSpeedPulse (BitVec.ofNat 16 p)]
  | .setLoop b => [.setLoop (b == 1)]
  | .isPlaying => [.isPlaying]
  | .isPaused => [.isPaused]
  | .getSampleRate => [.getSampleRate]
  | .getBuffered => [.getBuffered]
  | .getLoop => [.getLoop]
  | .query sel => (queryOf sel).toList
  | .speedFromPulse p inMin inMax rMin rMax =>
      [.setArg 0 (BitVec.ofNat 24 inMin), .setArg 1 (BitVec.ofNat 24 inMax),
       .setArg 2 (BitVec.ofNat 24 rMin.toCode), .setArg 3 (BitVec.ofNat 24 rMax.toCode),
       .setSpeedPulse (BitVec.ofNat 16 p)]
  | .playLooped name => [.setLoop true, .play (BitVec.ofNat 16 name)]

/-- R114, R115: the command words of an assembler line, or `none` where the assembler rejects an
operand. -/
def assembleLine (l : AsmLine) : Option (List Word) :=
  if l.wellFormed then some ((expandLine l).map encode) else none

end Sys2Proof
end

