-- ==== Sys2Proof/Machine/Sequencer.lean ====
section
/-! DEFINITION. The command sequencer (10_state.md R25): the segments of every command word, and the
application-context step that runs the next of them (R314 (3)). -/

namespace Sys2Proof

namespace Machine

/-- The segments of a command (R111). -/
def commandCode (i : Instr) : Code Unit :=
  match i with
  | .nop => nopCode
  | .begin sel => beginCode sel
  | .play name => playCode name
  | .stop => stopCode
  | .pause mute => pauseCode mute
  | .resume => resumeCode
  | .update => updateCode
  | .setVolume v => setVolumeCode v
  | .setRate q => setRateCode q
  | .setArg idx v => setArgCode idx v
  | .setSpeedPulse p => setSpeedPulseCode p
  | .setLoop b => setLoopCode b
  | .isPlaying => isPlayingCode
  | .isPaused => isPausedCode
  | .getSampleRate => getSampleRateCode
  | .getBuffered => getBufferedCode
  | .getLoop => getLoopCode

/-- The one segment of an illegal word: it finishes with ILLEGAL and changes nothing else
(R107, R303). -/
def illegalCode : Code Unit := Code.finish .illegal fun _ => 0

/-- The segments of a command word (R109, R111). -/
def wordCode (w : Word) : Code Unit :=
  match decodeWord w with
  | .ok i => commandCode i
  | .error _ => illegalCode

/-- The next segment of the running command (R25, R314 (3)). Where nothing is left to run, which no
running command comes to before its `finish`, time passes. -/
def runSegment (s : State) : State :=
  match s.seq with
  | .idle => passTime s
  | .run w answers =>
    match (wordCode w).after answers with
    | .ret _ => passTime s
    | .seg effect _ => (segment effect s).2

end Machine

end Sys2Proof
end

