-- ==== Sys2Proof/Machine/Step.lean ====
section
/-! DEFINITION. One step of the machine: the next action of the host, the next segment of a running
command, or time passing (R314). -/

namespace Sys2Proof

namespace Machine

open Host

/-- An offered command word is accepted, latched and run to its `finish` (R111); an illegal word
finishes with ILLEGAL (R107). -/
def runWord (w : Word) (s : State) : Outcome State Fault Refusal :=
  match decodeWord w with
  | .ok i => exec i (acceptWord w s)
  | .error _ => .next (illegalCode.run (acceptWord w s)).2

/-- One step. While a command runs, its next segment (R314 (3)): no word is accepted and the host waits
(R111, R86). While the TPC is idle the host's next action: a command word is accepted (R314 (4)), with its
whole command or by itself, or the cursor is moved (R314 (5)), or nothing is offered and time passes
(R314 (1), (2)). Time passes before every segment as well. -/
def step (s : State) : Outcome State Fault Refusal :=
  match s.busy with
  | true => .next (runSegment s)
  | false =>
    match s.host with
    | .offer w :: rest => runWord w { s with host := rest }
    | .accept w :: rest => .next (acceptWord w { s with host := rest })
    | .moveCursor pos :: rest => .next (hostMoveCursor pos { s with host := rest })
    | .wait :: rest => .next (passTime { s with host := rest })
    | [] => .next (passTime s)

/-- The state with an instruction word offered at the command port, next before anything else the host
does, and the TPC idle, so that the next step accepts and runs it (log 7). -/
def State.withFetchWord (s : State) (nbits w : Nat) : State :=
  { s with busy := false, seq := .idle,
           host := .offer (BitVec.ofNat 32 (w % 2 ^ nbits)) :: s.host }

end Machine

end Sys2Proof
end

