-- ==== Sys2Proof/Machine/Assembler.lean ====
section
/-! DEFINITION. The text form of the assembler (R114, R115): one command a line, comments from `;` on,
decimal or `0x` hexadecimal numbers, operands separated by commas (DESIGN CHOICE, log
15). Text is a list of characters. -/

namespace Sys2Proof

namespace Machine

/-- The digit of a character in base 10 or 16. -/
def digitValue (base : Nat) (c : Char) : Option Nat :=
  let n := c.toNat
  let v :=
    if 48 ≤ n ∧ n ≤ 57 then n - 48
    else if 97 ≤ n ∧ n ≤ 102 then n - 87
    else if 65 ≤ n ∧ n ≤ 70 then n - 55
    else base
  if v < base then some v else none

/-- The number that a string of digits stands for, after the digits already read as `acc`. -/
def digitsValue (base acc : Nat) : List Char → Option Nat
  | [] => some acc
  | c :: rest =>
    match digitValue base c with
    | some v => digitsValue base (acc * base + v) rest
    | none => none

/-- A decimal or `0x` hexadecimal number (R114). -/
def parseNumber : List Char → Option Nat
  | [] => none
  | '0' :: 'x' :: c :: rest => digitsValue 16 0 (c :: rest)
  | c :: rest => digitsValue 10 0 (c :: rest)

/-- A rate operand (R114): an integer code, or a decimal number with a point. -/
def parseRate (text : List Char) : Option RateOperand :=
  let whole := text.takeWhile (· ≠ '.')
  match text.dropWhile (· ≠ '.') with
  | [] => (parseNumber text).map .code
  | _ :: fraction =>
    if whole = [] ∨ fraction = [] then none
    else (digitsValue 10 0 (whole ++ fraction)).map fun m => .decimal m fraction.length

/-- A space or a tab. -/
def isBlank (c : Char) : Bool := c = ' ' || c = '\t'

/-- The text without blanks at its ends. -/
def trim (text : List Char) : List Char :=
  ((text.dropWhile isBlank).reverse.dropWhile isBlank).reverse

/-- The pieces of a text between commas, without the blanks around them. -/
def splitOperands (text : List Char) : List (List Char) :=
  (text.splitBy fun a b => a ≠ ',' && b ≠ ',').filterMap fun piece =>
    if piece = [','] then none else some (trim piece)

/-- The number of commas of a text. -/
def commas (text : List Char) : Nat := (text.filter (· = ',')).length

/-- The operands of a line: none where nothing follows the mnemonic, else one more than the commas, each
of at least one character. -/
def parseOperands (text : List Char) : Option (List (List Char)) :=
  if trim text = [] then some []
  else
    let ops := splitOperands text
    if ops.length = commas text + 1 ∧ ops.all (· ≠ []) then some ops else none

/-- The assembler line of a mnemonic and its operand texts (R114, R115). -/
def lineOf (mnemonic : String) (ops : List (List Char)) : Option AsmLine :=
  match ops with
  | [] =>
    match mnemonic with
    | "NOP" => some .nop
    | "STOP" => some .stop
    | "PAUSE" => some .pauseDefault
    | "RESUME" => some .resume
    | "UPDATE" => some .update
    | "IS_PLAYING" => some .isPlaying
    | "IS_PAUSED" => some .isPaused
    | "GET_SAMPLE_RATE" => some .getSampleRate
    | "GET_BUFFERED" => some .getBuffered
    | "GET_LOOP" => some .getLoop
    | _ => none
  | [a] =>
    match mnemonic with
    | "BEGIN" => (parseNumber a).map .begin
    | "PLAY" => (parseNumber a).map .play
    | "PAUSE" => (parseNumber a).map .pause
    | "SET_VOLUME" => (parseNumber a).map .setVolume
    | "SET_RATE" => (parseRate a).map .setRate
    | "SET_SPEED_PULSE" => (parseNumber a).map .setSpeedPulse
    | "SET_LOOP" => (parseNumber a).map .setLoop
    | "QUERY" => (parseNumber a).map .query
    | "PLAY_LOOPED" => (parseNumber a).map .playLooped
    | _ => none
  | [a, b] =>
    match mnemonic, parseNumber a, parseNumber b with
    | "SET_ARG", some idx, some v => some (.setArg idx v)
    | _, _, _ => none
  | [p, lo, hi, a, b] =>
    match mnemonic, parseNumber p, parseNumber lo, parseNumber hi, parseRate a, parseRate b with
    | "SPEED_FROM_PULSE", some p, some lo, some hi, some a, some b =>
        some (.speedFromPulse p lo hi a b)
    | _, _, _, _, _, _ => none
  | _ => none

/-- The command words of one line of text: none for a blank line or a comment, `none` where the assembler
rejects the line (R114). -/
def assembleText (text : List Char) : Option (List Word) :=
  let line := trim (text.takeWhile (· ≠ ';'))
  if line = [] then some []
  else
    match parseOperands (line.dropWhile (fun c => !isBlank c)) with
    | some ops =>
      match lineOf (String.ofList (line.takeWhile (fun c => !isBlank c))) ops with
      | some l => assembleLine l
      | none => none
    | none => none

end Machine

end Sys2Proof
end

