-- ==== Sys2Proof/Safety.lean ====
section
/-! DEFINITION. The terms in which claims about the machine are stated: the invariants of R38, R39, R48 and
R140, what the sample clock may change behind a running command, and the reserved bits of a format. -/

namespace Sys2Proof

namespace Machine

/-! ### The ring as a queue -/

/-- The ring slot `n` places after index `i` (R38). -/
def slotAfter (cfg : Params) (i : BitVec 16) (n : Nat) : Nat := (i.toNat + n) % cfg.bufCap

/-- The buffered bytes, the oldest first (R138). -/
def ringContents (s : State) : List Byte :=
  (List.range s.count.toNat).map fun n => ringRead s (slotAfter s.cfg s.rd n)

/-- The ring invariant of R38, with R39: the storage is canonical, it has no slot at or above C, and every
buffered slot has been written. -/
structure RingInv (s : State) : Prop where
  count_le : s.count.toNat ≤ s.cfg.bufCap
  rd_lt : s.rd.toNat < s.cfg.bufCap
  wr_lt : s.wr.toNat < s.cfg.bufCap
  wr_eq : s.wr.toNat = slotAfter s.cfg s.rd s.count.toNat
  written : ∀ n, n < s.count.toNat → (readByte s.rb (slotAfter s.cfg s.rd n)).isSome = true
  rb_wf : Memory.wf s.rb = true
  rb_lt : ∀ c ∈ s.rb, c.1 < s.cfg.bufCap

/-- What holds in every state, in the middle of a command too: the state-wide invariants of R48, with the
ring (R38, R39), the timer's count (R310), the storage device's files (R71) and the legal response codes
(R112). -/
structure Inv (s : State) : Prop where
  ring : RingInv s
  dataPos_le : s.dataPos.toNat ≤ s.dataSize.toNat
  volume_le : s.volume.toNat ≤ Config.volMax
  rate_ge : Config.rateMinQ ≤ s.rateQ.toNat
  rate_le : s.rateQ.toNat ≤ Config.rateMaxQ
  base_ge : 49 ≤ s.baseReload.toNat
  base_le : s.baseReload.toNat ≤ 65534
  reload_ge : 49 ≤ s.reloadReg.toNat
  reload_le : s.reloadReg.toNat ≤ 65534
  active_ge : 49 ≤ s.reloadActive.toNat
  active_le : s.reloadActive.toNat ≤ 65534
  tcnt_le : s.tcnt.toNat ≤ s.reloadActive.toNat
  stopped_ie : s.pstate = .stopped → s.ie = false
  paused_ie : s.pstate = .paused → s.ie = false
  active_iff : s.streamActive = true ↔ s.pstate ≠ .stopped
  open_known : ∀ name, s.openFile = some name → (lookupFile s.files name).isSome = true
  files_le : ∀ f ∈ s.files, f.2.length ≤ Config.offsetMax
  status_le : s.respStatus.toNat ≤ 3

/-- What holds between two commands: `Inv`, a file is open exactly while a stream is active (R32), and the
sequencer is idle (R25). -/
structure RestInv (s : State) : Prop extends Inv s where
  open_iff : s.streamActive = s.openFile.isSome
  not_busy : s.busy = false
  seq_idle : s.seq = .idle

/-- R140: while a stream is active, the ring holds the bytes of the open file that end just before the
next byte to read, in file order. -/
def StreamInv (s : State) : Prop :=
  s.streamActive = true →
    s.count.toNat ≤ s.dataPos.toNat ∧
    ringContents s =
      ((openBytes s).drop (expectedOffset s - s.count.toNat)).take s.count.toNat

/-! ### The middle of a command -/

/-- Running the segments of `c` from `s`: `I` holds before each of them, and `J` of the result and of the
state after the last. -/
def Code.Keeps {α : Type} (I : State → Prop) (J : α → State → Prop) (c : Code α) (s : State) : Prop :=
  match c with
  | .ret a => J a s
  | .seg effect next =>
    I s ∧ (next (segment effect s).1).Keeps I J (segment effect s).2

/-- `J` holds between commands. In the middle of one, what is left of it keeps `I` before each segment and
ends in `J`. The flag `busy` and the sequencer agree on which it is (R24, R25). -/
def Throughout (I J : State → Prop) (s : State) : Prop :=
  match s.busy, s.seq with
  | false, .idle => J s
  | true, .run w answers => ((wordCode w).after answers).Keeps I (fun _ => J) s
  | _, _ => False

/-- The invariant that every step keeps, between commands and at each of a command's segments. -/
def Legal (s : State) : Prop := Throughout Inv RestInv s

/-- `StreamInv` between commands, and at the end of the running one. -/
def StreamLegal (s : State) : Prop := Throughout (fun _ => True) StreamInv s

/-! ### What happens behind a running command -/

/-- `t` is reached from `s` by steps of the sample clock alone: timer steps and interrupt entries
(R314 (1), (2)). -/
inductive ClockRun : State → State → Prop where
  | done (s : State) : ClockRun s s
  | timer {s t : State} : ClockRun (timerStep s) t → ClockRun s t
  | entry {s t : State} : ClockRun (interruptEntry s) t → ClockRun s t

/-- `t` is reached from `s` by the writes in order, with steps of the sample clock alone before, between and
after them (R314). -/
def Interleaved (writes : List (State → State)) (s t : State) : Prop :=
  match writes with
  | [] => ClockRun s t
  | w :: rest => ∃ u, ClockRun s u ∧ Interleaved rest (w u) t

/-- `t` is `s` after these writes and no others, and whatever else differs is the work of timer steps and
interrupt entries (R309, R310, R312), and the model's record of how many were drawn (log 5). -/
def WritesOnly (writes : List (State → State)) (s t : State) : Prop :=
  ∃ u, Interleaved writes s u ∧ t = { u with timerScript := t.timerScript, draws := t.draws }

/-- A write that REFILL makes (R246): the cursor moves by a seek or a read, bytes are pushed, `dataPos`
advances, or `eod` is set. -/
inductive RefillWrite : (State → State) → Prop where
  | moved (pos : Word) (script : List Nat) :
      RefillWrite fun u => { u with cur := pos, readScript := script }
  | pushed (bytes : List Byte) : RefillWrite (pushAll bytes)
  | advanced (k : Nat) : RefillWrite (advancePos k)
  | latched : RefillWrite latchEndOfData

/-- Between `s` and `t`, `n` timer steps were drawn (log 5): the numbers taken from the script, and, only
once it is used up, free numbers, each at a draw of its own. -/
def TimerStepsDrawn (n : Nat) (s t : State) : Prop :=
  ∃ taken free : List Nat, s.timerScript = taken ++ t.timerScript ∧
    (t.timerScript ≠ [] → free = []) ∧ free.Pairwise (· < ·) ∧
    (∀ k ∈ free, s.draws ≤ k ∧ k < t.draws) ∧
    n = taken.sum + (free.map Config.freeTimerSteps).sum

/-- Between `s` and `t` no timer step fell: the script gave every number, and each was 0. -/
def NoTimerStep (s t : State) : Prop := t.timerScript ≠ [] ∧ TimerStepsDrawn 0 s t

/-- `s` with the registers that the sample clock writes (R309, R310), and the script of its timer steps,
taken from `t`. -/
def State.withClockOf (s t : State) : State :=
  { s with rd := t.rd, count := t.count, tcnt := t.tcnt, reloadActive := t.reloadActive,
           tf := t.tf, duty := t.duty, timerScript := t.timerScript, draws := t.draws }

/-- `s` with the response of a finished command in its registers (R112). -/
def State.responded (s : State) (status : BitVec 4) (value : Word) : State :=
  { s with respStatus := status, respValue := value, respValid := true, busy := false,
           seq := .idle }

/-- Nothing has been popped or driven out between `s` and `t` (R259: no TICK happens). -/
def NoTick (s t : State) : Prop := t.rd = s.rd ∧ t.count = s.count ∧ t.duty = s.duty

/-- The next `n` intervals hold no timer step. -/
def Quiet (n : Nat) (s : State) : Prop :=
  n ≤ s.timerScript.length ∧ ∀ k ∈ s.timerScript.take n, k = 0

/-- The state that a failed PLAY, a failed loop restart and a stop leave (R234, R240). -/
def StreamStopped (s : State) : Prop :=
  s.pstate = .stopped ∧ s.ie = false ∧ s.streamActive = false ∧ s.openFile = none ∧
    s.duty = Config.silence

/-- No file is open unless a stream is active (R32: "While `streamActive = 0` the TPC holds no file
open"). -/
def OpenOnlyIfActive (s : State) : Prop := s.openFile.isSome = true → s.streamActive = true

/-- The registers of a stream and its clock that only a successful START writes (R162, R240), and the ring's
write side, are those of `s`. -/
def StreamKept (s t : State) : Prop :=
  t.dataStart = s.dataStart ∧ t.dataSize = s.dataSize ∧ t.sampleRate = s.sampleRate ∧
    t.dataPos = s.dataPos ∧ t.eod = s.eod ∧ t.wr = s.wr ∧ t.rb = s.rb ∧
    t.baseReload = s.baseReload ∧ t.reloadReg = s.reloadReg

/-- The state after a successful START (R238 to R241), up to what the sample clock does once it is
enabled. -/
def StreamStarted (s t : State) : Prop :=
  t.pstate = .playing ∧ t.ie = true ∧ t.streamActive = true ∧ t.openFile = some t.nameReg ∧
    t.dataPos.toNat ≤ t.dataSize.toNat ∧ t.dataPos.toNat ≤ s.cfg.bufCap ∧
    t.wr.toNat = t.dataPos.toNat % s.cfg.bufCap ∧
    t.baseReload.toNat = basePeriod s.cfg t.sampleRate.toNat ∧
    t.reloadReg.toNat = reloadOfRate t.baseReload.toNat s.rateQ.toNat ∧
    ∀ a, t.dataPos.toNat ≤ a → readByte t.rb a = readByte s.rb a

/-- `s` with every register and device field that START and TEARDOWN may write taken from `t`: the rest
is what PLAY and the loop restart leave alone (R234, R242). -/
def State.withStreamOf (s t : State) : State :=
  { s with pstate := t.pstate, ie := t.ie, streamActive := t.streamActive,
           dataStart := t.dataStart, dataSize := t.dataSize, dataPos := t.dataPos,
           sampleRate := t.sampleRate, eod := t.eod, wr := t.wr, rb := t.rb,
           baseReload := t.baseReload, reloadReg := t.reloadReg, openFile := t.openFile,
           cur := t.cur, openScript := t.openScript, readScript := t.readScript }

/-! ### Reserved bits -/

/-- The reserved bits of the format of opcode `op`: the 0 cells of the table of R102. -/
def reservedMask (op : Nat) : Word :=
  match op with
  | 0x0 | 0x3 | 0x5 | 0x6 => 0x0FFFFFFF
  | 0x1 | 0x7 => 0x0FFFFF00
  | 0x2 | 0xA => 0x0FFF0000
  | 0x4 | 0xB => 0x0FFFFFFE
  | 0x8 => 0x0F000000
  | 0x9 => 0x0C000000
  | 0xC => 0x0FFFFFF0
  | _ => 0

/-- R107: the three grounds on which a command word is illegal. -/
def IsIllegal (w : Word) : Prop :=
  0xD ≤ opcodeOf w ∨ (opcodeOf w = 0xC ∧ 5 ≤ (w.extractLsb' 0 4).toNat) ∨
    w &&& reservedMask (opcodeOf w) ≠ 0

/-! ### A canonical file and a faithful device -/

/-- The four bytes of `n`, the lowest first (R16). -/
def le32Bytes (n : Nat) : List Byte :=
  [BitVec.ofNat 8 n, BitVec.ofNat 8 (n / 256), BitVec.ofNat 8 (n / 65536),
   BitVec.ofNat 8 (n / 16777216)]

/-- The canonical 44-byte header of R166: RIFF size `riff`, sample rate `rate`, byte rate `byteRate`,
block align 1, data size `size`. -/
def canonicalHeader (riff rate byteRate size : Nat) : List Byte :=
  tagRiff ++ le32Bytes riff ++ tagWave ++ tagFmt ++ le32Bytes 16 ++ [1, 0, 1, 0] ++
    le32Bytes rate ++ le32Bytes byteRate ++ [1, 0, 8, 0] ++ tagData ++ le32Bytes size

/-- The device's next `n` answers to StRead deliver all that is asked, as far as the file reaches (R82). -/
def FaithfulReads (n : Nat) (s : State) : Prop :=
  n ≤ s.readScript.length ∧ ∀ k ∈ s.readScript.take n, Config.chunkMax ≤ k

end Machine

end Sys2Proof
end

