-- ==== Sys2Proof/Certificates/Slice0/Obligations.lean ====
section
/-! DEFINITION. The statements for the provers, each over all states (and so over all configurations, all
storage contents, all interleavings and all answers of the storage device). -/

open Sys2Proof Sys2Proof.Machine

/-! ### Encoding -/

/-- The decoder reads back every command the encoder writes, with every operand value. -/
def Obligations.DecodeOfEncode : Prop :=
  ∀ i : Instr, i.wellFormed = true → decodeWord (encode i) = .ok i

/-- Each legal word has one meaning: encoding what it decodes to gives the word. -/
def Obligations.EncodeOfDecode : Prop :=
  ∀ (w : Word) (i : Instr), decodeWord w = .ok i → encode i = w

/-- R105: the decoder selects exactly the row whose mask and match fit the word; at most one row does,
and a word that fits no row is illegal. -/
def Obligations.DecodeSelectsTableRow : Prop :=
  (∀ (w : Word) (i : Instr), decodeWord w = .ok i →
    ∃ r ∈ opcodeTable, r.mnemonic = i.mnemonic ∧ r.selects w = true) ∧
  (∀ w : Word, ∀ r ∈ opcodeTable, r.selects w = true →
    ∃ i : Instr, decodeWord w = .ok i ∧ i.mnemonic = r.mnemonic) ∧
  (∀ w : Word, ∀ r ∈ opcodeTable, ∀ q ∈ opcodeTable,
    r.selects w = true → q.selects w = true → r = q)

/-- R107: a word is illegal on exactly three grounds, and an accepted illegal word changes nothing but
the response registers, which answer (ILLEGAL, 0). -/
def Obligations.IllegalWordsAnswerIllegal : Prop :=
  (∀ w : Word, (∃ e, decodeWord w = .error e) ↔ IsIllegal w) ∧
  (∀ (s : State) (w : Word) (rest : List HostEvent), s.busy = false →
    s.host = .offer w :: rest → IsIllegal w →
    ∃ t, step s = .next t ∧
      t = (({ s with host := rest }).responded 3 0).withClockOf t ∧
      (s.ie = false → NoTick s t) ∧
      WritesOnly [fun u => { u with host := rest }, fun u => u.responded 3 0] s t)

/-- Words written out from the spec's encoding decode to their commands (R116). -/
def Obligations.EncodingExamplesDecode : Prop :=
  decodeWord 0x20000001 = .ok (.play 1) ∧ decodeWord 0x80010000 = .ok (.setRate 65536) ∧
  decodeWord 0x80020000 = .ok (.setRate 131072) ∧ decodeWord 0x80004CCD = .ok (.setRate 19661) ∧
  decodeWord 0x70000004 = .ok (.setVolume 4) ∧ decodeWord 0x40000001 = .ok (.pause true) ∧
  decodeWord 0xB0000001 = .ok (.setLoop true) ∧ decodeWord 0xC0000003 = .ok .getBuffered ∧
  decodeWord 0x92008000 = .ok (.setArg 2 0x008000) ∧
  decodeWord 0xA00005DC = .ok (.setSpeedPulse 1500) ∧
  decodeWord 0x00000001 = .error .reservedBits ∧
  decodeWord 0xC0000005 = .error .reservedSelector ∧
  decodeWord 0xD0000000 = .error .reservedOpcode

/-- R114, R115: each assembler form and each pseudo-instruction gives its words for operands in range, and
is rejected out of range; the operand is never truncated. A decimal rate is rounded to the nearest code,
ties up. -/
def Obligations.AssemblerWordsAndRanges : Prop :=
  (assembleLine .nop = some [0x00000000] ∧ assembleLine .stop = some [0x30000000] ∧
    assembleLine .resume = some [0x50000000] ∧ assembleLine .update = some [0x60000000] ∧
    assembleLine .isPlaying = some [0xC0000000] ∧ assembleLine .isPaused = some [0xC0000001] ∧
    assembleLine .getSampleRate = some [0xC0000002] ∧
    assembleLine .getBuffered = some [0xC0000003] ∧ assembleLine .getLoop = some [0xC0000004] ∧
    assembleLine .pauseDefault = some [0x40000001]) ∧
  (∀ n, assembleLine (.begin n) =
    if n ≤ 255 then some [0x10000000 ||| BitVec.ofNat 32 n] else none) ∧
  (∀ n, assembleLine (.play n) =
    if n ≤ 65535 then some [0x20000000 ||| BitVec.ofNat 32 n] else none) ∧
  (∀ n, assembleLine (.pause n) =
    if n ≤ 1 then some [0x40000000 ||| BitVec.ofNat 32 n] else none) ∧
  (∀ n, assembleLine (.setVolume n) =
    if n ≤ 255 then some [0x70000000 ||| BitVec.ofNat 32 n] else none) ∧
  (∀ r : RateOperand, assembleLine (.setRate r) =
    if r.toCode ≤ 16777215 then some [0x80000000 ||| BitVec.ofNat 32 r.toCode] else none) ∧
  (∀ idx v, assembleLine (.setArg idx v) =
    if idx ≤ 3 ∧ v ≤ 16777215 then
      some [0x90000000 ||| BitVec.ofNat 32 (idx * 16777216) ||| BitVec.ofNat 32 v] else none) ∧
  (∀ n, assembleLine (.setSpeedPulse n) =
    if n ≤ 65535 then some [0xA0000000 ||| BitVec.ofNat 32 n] else none) ∧
  (∀ n, assembleLine (.setLoop n) =
    if n ≤ 1 then some [0xB0000000 ||| BitVec.ofNat 32 n] else none) ∧
  (∀ n, assembleLine (.query n) =
    if n ≤ 4 then some [0xC0000000 ||| BitVec.ofNat 32 n] else none) ∧
  (∀ (p lo hi : Nat) (a b : RateOperand), assembleLine (.speedFromPulse p lo hi a b) =
    if p ≤ 65535 ∧ lo ≤ 65535 ∧ hi ≤ 65535 ∧ a.toCode ≤ 16777215 ∧ b.toCode ≤ 16777215 then
      some [0x90000000 ||| BitVec.ofNat 32 lo, 0x91000000 ||| BitVec.ofNat 32 hi,
        0x92000000 ||| BitVec.ofNat 32 a.toCode, 0x93000000 ||| BitVec.ofNat 32 b.toCode,
        0xA0000000 ||| BitVec.ofNat 32 p] else none) ∧
  (∀ n, assembleLine (.playLooped n) =
    if n ≤ 65535 then some [0xB0000001, 0x20000000 ||| BitVec.ofNat 32 n] else none) ∧
  (∀ q, (RateOperand.code q).toCode = q) ∧
  (∀ m d : Nat, 2 * 10 ^ d * (RateOperand.decimal m d).toCode ≤ 2 * m * 65536 + 10 ^ d ∧
    2 * m * 65536 + 10 ^ d < 2 * 10 ^ d * ((RateOperand.decimal m d).toCode + 1))

/-- A step runs the decoded command: an offered legal word is latched (R111), and the step is `exec` of
its command on the accepted state. The model's choices in it: the offers are a list (log 7), one step is
the whole command (log 8), and acceptance lowers `resp_valid` (log 10). -/
def Obligations.StepRunsDecodedWord : Prop :=
  ∀ (s : State) (w : Word) (rest : List HostEvent) (i : Instr), s.busy = false →
    s.host = .offer w :: rest → decodeWord w = .ok i →
    step s = exec i { s with host := rest, busy := true, seq := .run w [], respValid := false }

/-- R25, R111, R112, R314: a command accepted by itself runs one segment a step. After `m` of them it is
still busy, with the index of the next segment `m`, or it has finished; when it has, the state is that of
the whole command in one step. The model's choices in it: the list of offers (log 7) and the two sizes of
a step (log 8). -/
def Obligations.SegmentsMakeTheCommand : Prop :=
  ∀ (s : State) (w : Word) (rest : List HostEvent), s.busy = false → s.host = .accept w :: rest →
    ∃ (n : Nat) (t : State), 1 ≤ n ∧ core.run (1 + n) s = .next t ∧
      step { s with host := .offer w :: rest } = .next t ∧ t.busy = false ∧ t.seq = .idle ∧
      ∀ m, m < n → ∃ (u : State) (answers : List Answer), core.run (1 + m) s = .next u ∧
        u.busy = true ∧ u.seq = .run w answers ∧ u.seq.index = m ∧ u.host = rest

/-- While the host offers nothing, a step is some timer steps and interrupt entries and nothing else. That
it lowers `resp_valid` is the model's choice (log 10), and so is the list of the host's actions
(log 7). -/
def Obligations.TimePassesWithoutCommand : Prop :=
  (∀ s : State, s.busy = false → s.host = [] →
    ∃ t, step s = .next t ∧ t = ({ s with respValid := false }).withClockOf t ∧
      (s.ie = false → NoTick s t) ∧ WritesOnly [fun u => { u with respValid := false }] s t) ∧
  (∀ (s : State) (rest : List HostEvent), s.busy = false → s.host = .wait :: rest →
    ∃ t, step s = .next t ∧
      t = ({ s with host := rest, respValid := false }).withClockOf t ∧
      (s.ie = false → NoTick s t) ∧
      WritesOnly [fun u => { u with host := rest, respValid := false }] s t)

/-- R86: while the TPC is idle the host sets the open file's cursor, and changes nothing else. That a move
changes nothing while no file is open is the model's choice (log 7), and so is that it lowers `resp_valid`
(log 10). -/
def Obligations.HostMovesCursorWhenIdle : Prop :=
  ∀ (s : State) (pos : Word) (rest : List HostEvent), s.busy = false →
    s.host = .moveCursor pos :: rest →
    step s = .next { s with
      host := rest, respValid := false,
      cur := if s.openFile.isSome then pos else s.cur }

/-- R310, R312, R190: no command reads or writes the timer's count or the reload in use. Every step, a
whole command included, leaves them as the timer steps drawn for it leave them (log 5), with a write of the
reload register (or none) somewhere among them; without a timer step they stay. `TF` is set only by a
boundary among those steps, and with the interrupt off throughout it is exactly as they leave it. -/
def Obligations.TimerRunsFreely : Prop :=
  ∀ s t : State, step s = .next t →
    (∃ n m, TimerStepsDrawn (n + m) s t ∧
      let u := timerStep^[n] s
      let v := timerStep^[m] { u with reloadReg := t.reloadReg }
      t.tcnt = v.tcnt ∧ t.reloadActive = v.reloadActive ∧ (t.tf = true → v.tf = true) ∧
        (s.ie = false → t.ie = false → t.tf = v.tf)) ∧
    (NoTimerStep s t → t.tcnt = s.tcnt ∧ t.reloadActive = s.reloadActive)

/-! ### Configuration, reset and the invariants -/

/-- R10: a configuration is refused exactly outside the bounds. -/
def Obligations.ConfigurationBounds : Prop :=
  ∀ c m f : Nat,
    ((1 ≤ c ∧ c ≤ 65536 ∧ m < c ∧ 1 ≤ f ∧ f ≤ 2 ^ 32 - 1) →
      ∃ p, Params.check c m f = some p ∧ p.bufCap = c ∧ p.margin = m ∧ p.timerClkHz = f) ∧
    (¬(1 ≤ c ∧ c ≤ 65536 ∧ m < c ∧ 1 ≤ f ∧ f ≤ 2 ^ 32 - 1) → Params.check c m f = none)

/-- R340: the reset values, and the storage contents left as the parameter has them. Nothing is said of
`duty` and of the ring's bytes, which R341 leaves open. -/
def Obligations.ResetValues : Prop :=
  let s := State.reset
  s.arg0 = 0 ∧ s.arg1 = 0 ∧ s.arg2 = 0 ∧ s.arg3 = 0 ∧ s.respStatus = 0 ∧ s.respValue = 0 ∧
  s.busy = false ∧ s.seq = .idle ∧ cmdReady s = true ∧ s.pstate = .stopped ∧
  s.loopFlag = false ∧ s.nameReg = 0 ∧ s.nameValid = false ∧ s.volume = 8 ∧ s.rateQ = 65536 ∧
  s.storageSel = 0 ∧ s.streamActive = false ∧ s.dataStart = 0 ∧ s.dataSize = 0 ∧
  s.dataPos = 0 ∧ s.sampleRate = 0 ∧ s.eod = false ∧ s.rd = 0 ∧ s.wr = 0 ∧ s.count = 0 ∧
  s.baseReload.toNat = basePeriod s.cfg 0 ∧ s.reloadReg.toNat = basePeriod s.cfg 0 ∧
  s.reloadActive.toNat = basePeriod s.cfg 0 ∧ s.tcnt = 0 ∧ s.tf = false ∧ s.ie = false ∧
  s.openFile = none ∧ s.files = Config.files

/-- The reset state meets the state-wide invariants, and those of the stream. -/
def Obligations.ResetMeetsInvariants : Prop := Legal State.reset ∧ StreamLegal State.reset

/-- R48: the state-wide invariants hold in every legal state, at each segment of a command too, and every
step from a legal state leads to a legal one. -/
def Obligations.StepKeepsInvariants : Prop :=
  (∀ s : State, Legal s → Inv s) ∧
  (∀ s t : State, Legal s → step s = .next t → Legal t)

/-- R140: every step keeps the ring holding the open file's bytes in order, from every state that meets
the invariants. -/
def Obligations.StepKeepsFileBytesInOrder : Prop :=
  ∀ s t : State, Legal s → StreamLegal s → step s = .next t → StreamLegal t

/-! ### The ring -/

/-- R133: PUSH below capacity writes `RB[wr]`, `wr` and `count` and nothing else; at capacity it is
Rejected and changes nothing. A PUSH that fills a legal ring leaves `wr = rd`. -/
def Obligations.PushContract : Prop :=
  ∀ (s : State) (v : Byte), s.wr.toNat < s.cfg.bufCap →
    (s.count.toNat < s.cfg.bufCap →
      (push v s).1 = true ∧
      (push v s).2 = { s with
        rb := (push v s).2.rb, wr := (push v s).2.wr, count := (push v s).2.count } ∧
      (push v s).2.wr.toNat = (s.wr.toNat + 1) % s.cfg.bufCap ∧
      (push v s).2.count.toNat = s.count.toNat + 1 ∧
      readByte (push v s).2.rb s.wr.toNat = some v ∧
      (∀ a, a ≠ s.wr.toNat → readByte (push v s).2.rb a = readByte s.rb a) ∧
      (RingInv s → s.count.toNat + 1 = s.cfg.bufCap → (push v s).2.wr = s.rd)) ∧
    (s.cfg.bufCap ≤ s.count.toNat → push v s = (false, s))

/-- R134: POP of a non-empty ring returns the byte at `rd`, which some PUSH wrote, and moves `rd` and
`count`; POP of an empty ring changes nothing. -/
def Obligations.PopContract : Prop :=
  ∀ s : State,
    (0 < s.count.toNat →
      (pop s).2 = { s with rd := (pop s).2.rd, count := (pop s).2.count } ∧
      (pop s).2.rd.toNat = (s.rd.toNat + 1) % s.cfg.bufCap ∧
      (pop s).2.count.toNat = s.count.toNat - 1 ∧
      (RingInv s → ∃ v, readByte s.rb s.rd.toNat = some v ∧ (pop s).1 = some v)) ∧
    (s.count.toNat = 0 → pop s = (none, s))

/-- R137: RING_RESET establishes the ring invariant, PUSH and POP keep it, and a Rejected PUSH
and an Empty POP change nothing. -/
def Obligations.RingInvariantPreserved : Prop :=
  (∀ s : State, Memory.wf s.rb = true → (∀ c ∈ s.rb, c.1 < s.cfg.bufCap) →
    RingInv (ringReset s)) ∧
  (∀ (s : State) (v : Byte), RingInv s → RingInv (push v s).2) ∧
  (∀ s : State, RingInv s → RingInv (pop s).2) ∧
  (∀ (s : State) (v : Byte), (push v s).1 = false → (push v s).2 = s) ∧
  (∀ s : State, (pop s).1 = none → (pop s).2 = s)

/-- R138: the ring is a first-in first-out queue. PUSH appends, POP takes the oldest byte, RING_RESET
empties it. -/
def Obligations.RingRefinesQueue : Prop :=
  ∀ s : State, RingInv s →
    (∀ v : Byte, s.count.toNat < s.cfg.bufCap →
      ringContents (push v s).2 = ringContents s ++ [v]) ∧
    (∀ (v : Byte) (rest : List Byte), ringContents s = v :: rest →
      (pop s).1 = some v ∧ ringContents (pop s).2 = rest) ∧
    (ringContents s = [] → (pop s).1 = none ∧ ringContents (pop s).2 = []) ∧
    ringContents (ringReset s) = []

/-- R139: TICK on an empty ring drives silence, 127, at every volume level, and changes nothing else. -/
def Obligations.UnderrunDrivesSilence : Prop :=
  ∀ s : State, s.count = 0 → s.volume.toNat ≤ 8 → tick s = { s with duty := 127 }

/-! ### The sample clock and its interrupt -/

/-- R306, R307: interrupt entry does nothing unless enabled and pending; then it clears `TF` and pops,
attenuates and drives one byte, or silence. Nothing else changes (R309). -/
def Obligations.InterruptEntryRunsTick : Prop :=
  ∀ s : State, s.volume.toNat ≤ 8 →
    ((s.ie = false ∨ s.tf = false) → interruptEntry s = s) ∧
    (s.ie = true → s.tf = true → s.count = 0 →
      interruptEntry s = { s with tf := false, duty := 127 }) ∧
    (s.ie = true → s.tf = true → 0 < s.count.toNat →
      interruptEntry s = { s with
        tf := false
        rd := BitVec.ofNat 16 ((s.rd.toNat + 1) % s.cfg.bufCap)
        count := BitVec.ofNat 17 (s.count.toNat - 1)
        duty := attenuate (ringRead s s.rd.toNat) s.volume.toNat })

/-- R310, R311: from the start of a period the timer counts up without an event, and after
`reloadActive + 1` steps the boundary sets `TF` and loads `reloadReg` for the next period (R190). -/
def Obligations.TimerPeriodLength : Prop :=
  ∀ s : State, s.tcnt = 0 →
    (∀ n, n ≤ s.reloadActive.toNat → timerStep^[n] s = { s with tcnt := BitVec.ofNat 16 n }) ∧
    timerStep^[s.reloadActive.toNat + 1] s =
      { s with tcnt := 0, reloadActive := s.reloadReg, tf := true }

/-- R314: between two segments only timer steps and interrupt entries happen, and a due interrupt is
never left waiting for the next segment. -/
def Obligations.GapRunsTheClockAndTakesTheInterrupt : Prop :=
  ∀ s : State, interruptDue (gap s) = false ∧
    ∃ u, ClockRun s u ∧
      gap s = { u with timerScript := (gap s).timerScript, draws := (gap s).draws }

/-- R73, R315: inside a critical section the interrupt waits: no TICK runs, `IE` is neither read nor
written, and a pending flag stays set however many boundaries pass. -/
def Obligations.HoldDefersTheInterrupt : Prop :=
  ∀ s : State,
    hold s = { s with
      tcnt := (hold s).tcnt, reloadActive := (hold s).reloadActive, tf := (hold s).tf,
      timerScript := (hold s).timerScript, draws := (hold s).draws } ∧
    (s.tf = true → (hold s).tf = true) ∧
    (∀ b, hold { s with ie := b } = { hold s with ie := b })

/-! ### The parser -/

/-- R153: a file whose first tag is not RIFF, or whose third is not WAVE, is a FormatFailure, whatever
the device delivers. -/
def Obligations.ParseRejectsWrongTags : Prop :=
  ∀ s : State, s.cur = 0 → (openBytes s).length ≤ 2 ^ 32 - 1 →
    ((openBytes s).take 4 ≠ tagRiff ∨ ((openBytes s).drop 8).take 4 ≠ tagWave) →
    (parse.run s).1 = .formatFail

/-- R152: PARSE writes none of the TPC's registers; it moves the storage cursor. Behind it only the sample
clock runs. -/
def Obligations.ParseWritesNoRegister : Prop :=
  ∀ s : State,
    (parse.run s).2 = ({ s with
      seq := (parse.run s).2.seq, cur := (parse.run s).2.cur,
      readScript := (parse.run s).2.readScript }).withClockOf (parse.run s).2 ∧
    (s.ie = false → NoTick s (parse.run s).2) ∧
    ∃ u, ClockRun s u ∧ (parse.run s).2 = { u with
      seq := (parse.run s).2.seq, cur := (parse.run s).2.cur,
      readScript := (parse.run s).2.readScript, timerScript := (parse.run s).2.timerScript,
      draws := (parse.run s).2.draws }

/-- R157: a successful parse stops just after a `data` header and leaves the cursor there; the answer
is that offset and the size the header declares. -/
def Obligations.ParseOkStopsAtData : Prop :=
  ∀ (s : State) (start size rate : Word), (openBytes s).length ≤ 2 ^ 32 - 1 →
    (parse.run s).1 = .ok start size rate →
    8 ≤ start.toNat ∧
    ((openBytes s).drop (start.toNat - 8)).take 4 = tagData ∧
    littleEndian (((openBytes s).drop (start.toNat - 4)).take 4) = size.toNat ∧
    (parse.run s).2.cur = start

/-- R160: a successful parse has read, before the data chunk, a fmt chunk that declares PCM, one channel
and 8 bits, and answers its sample rate. -/
def Obligations.ParseOkSawPlayableFmt : Prop :=
  ∀ (s : State) (start size rate : Word), (openBytes s).length ≤ 2 ^ 32 - 1 →
    (parse.run s).1 = .ok start size rate →
    ∃ p, p + 16 + littleEndian (((openBytes s).drop (p + 4)).take 4) ≤ start.toNat ∧
      ((openBytes s).drop p).take 4 = tagFmt ∧
      16 ≤ littleEndian (((openBytes s).drop (p + 4)).take 4) ∧
      littleEndian (((openBytes s).drop (p + 8)).take 2) = 1 ∧
      littleEndian (((openBytes s).drop (p + 10)).take 2) = 1 ∧
      littleEndian (((openBytes s).drop (p + 12)).take 4) = rate.toNat ∧
      littleEndian (((openBytes s).drop (p + 22)).take 2) = 8

/-- R164: the bound on the scan never cuts it short: more rounds than the file has chunks give the same
answer, and the bound is as many. -/
def Obligations.ParseFuelSuffices : Prop :=
  ∀ (s : State) (f : FmtInfo) (n : Nat), (openBytes s).length ≤ 2 ^ 32 - 1 →
    (openBytes s).length / 8 + 1 ≤ parseBound ∧
    ((openBytes s).length / 8 + 1 ≤ n →
      (parseLoop n f).run s = (parseLoop ((openBytes s).length / 8 + 1) f).run s)

/-- R166: the canonical header parses to (44, N, sample rate), for every N and rate; the RIFF size and
the byte rate are ignored (R153, R155). -/
def Obligations.ParseCanonicalHeader : Prop :=
  ∀ (s : State) (riff rate byteRate size : Nat) (rest : List Byte),
    rate < 2 ^ 32 → size < 2 ^ 32 → s.cur = 0 →
    openBytes s = canonicalHeader riff rate byteRate size ++ rest →
    FaithfulReads 13 s →
    (parse.run s).1 = .ok 44 (BitVec.ofNat 32 size) (BitVec.ofNat 32 rate) ∧ (parse.run s).2.cur = 44

/-! ### The rate mapper -/

/-- R180: BASE_PERIOD lies in 49..65534, and sample rates outside [4000, 32000] act as the nearer end.
In between the period is the floor of the clock over the rate, clamped to [50, 65535]. -/
def Obligations.BasePeriodClamps : Prop :=
  ∀ (cfg : Params) (sr : Nat),
    49 ≤ basePeriod cfg sr ∧ basePeriod cfg sr ≤ 65534 ∧
    (sr ≤ 4000 → basePeriod cfg sr = basePeriod cfg 4000) ∧
    (32000 ≤ sr → basePeriod cfg sr = basePeriod cfg 32000) ∧
    (4000 ≤ sr → sr ≤ 32000 → 50 ≤ cfg.timerClkHz / sr → cfg.timerClkHz / sr ≤ 65535 →
      basePeriod cfg sr + 1 = cfg.timerClkHz / sr) ∧
    (4000 ≤ sr → sr ≤ 32000 → cfg.timerClkHz / sr < 50 → basePeriod cfg sr = 49) ∧
    (4000 ≤ sr → sr ≤ 32000 → 65535 < cfg.timerClkHz / sr → basePeriod cfg sr = 65534)

/-- R189: the reload lies in 49..65534, does not increase with the rate, holds at 49 once the quotient is
below 50, and need not decrease strictly; rate 1.0 gives back `baseReload` (R182). -/
def Obligations.ReloadRangeAndMonotone : Prop :=
  (∀ base q, 49 ≤ reloadOfRate base q ∧ reloadOfRate base q ≤ 65534) ∧
  (∀ base q r, 19661 ≤ q → q ≤ r → reloadOfRate base r ≤ reloadOfRate base q) ∧
  (∀ base q, 19661 ≤ q → (base + 1) * 65536 < 50 * q → reloadOfRate base q = 49) ∧
  (reloadOfRate 1999 65536 = 1999 ∧ reloadOfRate 1999 65537 = 1999) ∧
  (∀ base, 49 ≤ base → base ≤ 65534 → reloadOfRate base 65536 = base) ∧
  (∀ s : State,
    (applyRate.run s).2 = ({ s with
      seq := (applyRate.run s).2.seq,
      reloadReg := (applyRate.run s).2.reloadReg }).withClockOf (applyRate.run s).2 ∧
    (applyRate.run s).2.reloadReg.toNat = reloadOfRate s.baseReload.toNat s.rateQ.toNat)

/-- R187: the interpolated rate lies between the two ends, and equals an end at and beyond the ends of
the pulse range, in both directions of the range; in between it is the linear interpolation, truncated
toward `rateMin`; an empty range gives `rateMin`. -/
def Obligations.PulseRateBetweenEnds : Prop :=
  ∀ p lo hi rMin rMax : Int,
    min rMin rMax ≤ pulseRate p lo hi rMin rMax ∧ pulseRate p lo hi rMin rMax ≤ max rMin rMax ∧
    (lo = hi → pulseRate p lo hi rMin rMax = rMin) ∧
    (lo < hi → p ≤ lo → pulseRate p lo hi rMin rMax = rMin) ∧
    (lo < hi → hi ≤ p → pulseRate p lo hi rMin rMax = rMax) ∧
    (hi < lo → lo ≤ p → pulseRate p lo hi rMin rMax = rMin) ∧
    (hi < lo → p ≤ hi → pulseRate p lo hi rMin rMax = rMax) ∧
    (lo < p → p < hi →
      pulseRate p lo hi rMin rMax = rMin + Int.tdiv ((rMax - rMin) * (p - lo)) (hi - lo)) ∧
    (hi < p → p < lo →
      pulseRate p lo hi rMin rMax = rMin + Int.tdiv ((rMax - rMin) * (lo - p)) (lo - hi))

/-- R184: SET_RATE stores the clamped rate and writes the reload it gives for the current `baseReload`,
in every playback state, and completes with (OK, 0). -/
def Obligations.SetRateStoresAndApplies : Prop :=
  ∀ (s : State) (q : RateCode), ∃ t, exec (.setRate q) s = .next t ∧
    t.rateQ.toNat = max 19661 (min q.toNat 196608) ∧
    t.reloadReg.toNat = reloadOfRate s.baseReload.toNat t.rateQ.toNat ∧
    t = (({ s with rateQ := t.rateQ, reloadReg := t.reloadReg }).responded 0 0).withClockOf t ∧
    (s.ie = false → NoTick s t) ∧
    WritesOnly [fun u => { u with rateQ := t.rateQ }, fun u => { u with reloadReg := t.reloadReg },
      fun u => u.responded 0 0] s t

/-- R187: SET_SPEED_PULSE interpolates between the staged rates, clamps the result, stores and applies
it, and completes with (OK, 0). Bits 23:16 of ARG[0] and ARG[1] are ignored (R23). -/
def Obligations.SetSpeedPulseStoresAndApplies : Prop :=
  ∀ (s : State) (p : BitVec 16), ∃ t, exec (.setSpeedPulse p) s = .next t ∧
    (t.rateQ.toNat : Int) =
      max 19661 (min (pulseRate p.toNat (s.arg0.toNat % 65536 : Nat) (s.arg1.toNat % 65536 : Nat)
        s.arg2.toNat s.arg3.toNat) 196608) ∧
    t.reloadReg.toNat = reloadOfRate s.baseReload.toNat t.rateQ.toNat ∧
    t = (({ s with rateQ := t.rateQ, reloadReg := t.reloadReg }).responded 0 0).withClockOf t ∧
    (s.ie = false → NoTick s t) ∧
    WritesOnly [fun u => { u with rateQ := t.rateQ }, fun u => { u with reloadReg := t.reloadReg },
      fun u => u.responded 0 0] s t

/-- R186: SET_ARG writes one staging register and changes nothing else. -/
def Obligations.SetArgWritesOneRegister : Prop :=
  ∀ (s : State) (idx : BitVec 2) (v : BitVec 24), ∃ t, exec (.setArg idx v) s = .next t ∧
    t = (({ s with
        arg0 := if idx = 0 then v else s.arg0, arg1 := if idx = 1 then v else s.arg1,
        arg2 := if idx = 2 then v else s.arg2,
        arg3 := if idx = 3 then v else s.arg3 }).responded 0 0).withClockOf t ∧
    (s.ie = false → NoTick s t) ∧
    WritesOnly [fun u => { u with
        arg0 := if idx = 0 then v else s.arg0, arg1 := if idx = 1 then v else s.arg1,
        arg2 := if idx = 2 then v else s.arg2, arg3 := if idx = 3 then v else s.arg3 },
      fun u => u.responded 0 0] s t

/-! ### The attenuator -/

/-- R211 to R213: the value of ATTENUATE below level 8, its identities and its monotonicity. -/
def Obligations.AttenuateProperties : Prop :=
  (∀ (x : Byte) (level : Nat), level < 8 →
    ((attenuate x level).toNat : Int) =
      Int.fdiv ((x.toNat : Int) - 128) (2 ^ ((8 - level) / 2)) + 128) ∧
  (∀ x, attenuate x 8 = x ∧ attenuate x 7 = x) ∧
  (∀ level, level ≤ 8 → attenuate 128 level = 128) ∧
  (∀ level, level ≤ 8 → attenuate 127 level = 127) ∧
  (∀ (x : Byte) (l1 l2 : Nat), l1 < l2 → l2 ≤ 8 →
    ((attenuate x l1).toNat - 128 : Int).natAbs ≤ ((attenuate x l2).toNat - 128 : Int).natAbs) ∧
  (∀ (x y : Byte) (level : Nat), level ≤ 8 → x.toNat ≤ y.toNat →
    (attenuate x level).toNat ≤ (attenuate y level).toNat)

/-- R214: SET_VOLUME stores `min(v, 8)` and completes with (OK, 0). -/
def Obligations.SetVolumeClamps : Prop :=
  ∀ (s : State) (v : BitVec 8), ∃ t, exec (.setVolume v) s = .next t ∧
    t.volume.toNat = min v.toNat 8 ∧
    t = (({ s with volume := t.volume }).responded 0 0).withClockOf t ∧
    (s.ie = false → NoTick s t) ∧
    WritesOnly [fun u => { u with volume := t.volume }, fun u => u.responded 0 0] s t

/-! ### Playback commands -/

/-- R231: NOP writes only the response registers; behind it runs only the sample clock. -/
def Obligations.NopOnlyResponds : Prop :=
  ∀ s : State, ∃ t, exec .nop s = .next t ∧
    t = (s.responded 0 0).withClockOf t ∧
    ∃ u, ClockRun s u ∧
      t = { u.responded 0 0 with timerScript := t.timerScript, draws := t.draws }

/-- R232: BEGIN latches the selector, drives silence and answers (OK, 1). A TICK taken meanwhile may
overwrite the duty value; without one it is 127. -/
def Obligations.BeginLatchesAndSilences : Prop :=
  ∀ (s : State) (sel : BitVec 8), ∃ t, exec (.begin sel) s = .next t ∧
    t = (({ s with storageSel := sel }).responded 0 1).withClockOf t ∧
    ((s.ie = false ∨ (s.tf = false ∧ Quiet 5 s)) →
      t.duty = 127 ∧ t.rd = s.rd ∧ t.count = s.count) ∧
    WritesOnly [fun u => { u with storageSel := sel }, fun u => { u with duty := 127 },
      fun u => u.responded 0 1] s t

/-- R240: PLAY completes with one of its three outcomes, retains the name in each (R236), and leaves
alone whatever is no register of the stream or its clock. -/
def Obligations.PlayOutcomes : Prop :=
  ∀ (s : State) (name : Name), OpenOnlyIfActive s → ∃ t, exec (.play name) s = .next t ∧
    t = (((({ s with nameReg := name, nameValid := true } : State).withStreamOf t).responded
      t.respStatus t.respValue).withClockOf t) ∧
    ((t.respStatus = 0 ∧ t.respValue = 1 ∧ StreamStarted s t) ∨
      ((t.respStatus = 1 ∨ t.respStatus = 2) ∧ t.respValue = 0 ∧ StreamStopped t ∧
        StreamKept s t ∧ (s.ie = false → t.rd = s.rd ∧ t.count = s.count)))

/-- R300, R301: PLAY of an absent name answers OPEN_FAIL; PLAY of a file that opens and does not start
with RIFF answers FORMAT_FAIL. -/
def Obligations.PlayFailureCauses : Prop :=
  (∀ (s : State) (name : Name), lookupFile s.files name = none →
    ∃ t, exec (.play name) s = .next t ∧ t.respStatus = 1 ∧ t.respValue = 0) ∧
  (∀ (s : State) (name : Name) (bytes : List Byte) (rest : List Bool),
    lookupFile s.files name = some bytes → bytes.length ≤ 2 ^ 32 - 1 →
    s.openScript = true :: rest → bytes.take 4 ≠ tagRiff →
    ∃ t, exec (.play name) s = .next t ∧ t.respStatus = 2 ∧ t.respValue = 0)

/-- R239, R241: PLAY of a canonical file from a faithful device succeeds, primes the ring to the refill
level or to the end of the data, and sets the clock from the file's rate. Until a period boundary falls
(none does under a script of zeros, log 5), `TF` is clear, the output silent and the ring as primed
(R240, R243). -/
def Obligations.PlayPrimesCanonicalStream : Prop :=
  ∀ (s : State) (name : Name) (riff rate byteRate size : Nat) (pcm : List Byte) (rest : List Bool),
    rate < 2 ^ 32 → size ≤ pcm.length → 44 + pcm.length ≤ 2 ^ 32 - 1 →
    lookupFile s.files name = some (canonicalHeader riff rate byteRate size ++ pcm) →
    s.openScript = true :: rest → FaithfulReads (13 + s.cfg.bufCap) s →
    ∃ t, exec (.play name) s = .next t ∧ t.respStatus = 0 ∧ t.respValue = 1 ∧
      t.pstate = .playing ∧ t.ie = true ∧ t.eod = false ∧
      t.dataStart = 44 ∧ t.dataSize.toNat = size ∧ t.sampleRate.toNat = rate ∧
      min size (s.cfg.bufCap - s.cfg.margin) ≤ t.dataPos.toNat ∧
      t.dataPos.toNat ≤ min size s.cfg.bufCap ∧
      t.baseReload.toNat = basePeriod s.cfg rate ∧
      t.reloadReg.toNat = reloadOfRate (basePeriod s.cfg rate) s.rateQ.toNat ∧
      (Quiet (100 + 10 * s.cfg.bufCap) s →
        t.tf = false ∧ t.duty = 127 ∧ t.rd = 0 ∧ t.count.toNat = t.dataPos.toNat)

/-- R258: STOP disables the interrupt, closes the file, drives silence and clears the stream, from every
state, and keeps everything else (R234). -/
def Obligations.StopTearsDown : Prop :=
  ∀ s : State, ∃ t, exec .stop s = .next t ∧
    t = (({ s with
        pstate := .stopped, ie := false, streamActive := false,
        openFile := if s.streamActive then none else s.openFile }).responded 0 0).withClockOf t ∧
    t.duty = 127 ∧ (s.ie = false → t.rd = s.rd ∧ t.count = s.count) ∧
    WritesOnly [fun u => { u with ie := false },
      fun u => { u with openFile := if s.streamActive then none else s.openFile },
      fun u => { u with duty := 127, streamActive := false, pstate := .stopped },
      fun u => u.responded 0 0] s t

/-- R254: PAUSE while Playing disables the interrupt, mutes if asked and goes to Paused; the stream and
the ring stay (R255), but for the ticks before the interrupt is disabled: none is taken when none is
pending and no timer step falls in the two intervals before that (log 5). -/
def Obligations.PauseWhilePlaying : Prop :=
  ∀ (s : State) (mute : Bool), s.pstate = .playing → ∃ t, exec (.pause mute) s = .next t ∧
    t = (({ s with pstate := .paused, ie := false }).responded 0 0).withClockOf t ∧
    (mute = true → t.duty = 127) ∧
    ((s.ie = false ∨ (s.tf = false ∧ Quiet 2 s)) →
      t.rd = s.rd ∧ t.count = s.count ∧ (mute = false → t.duty = s.duty)) ∧
    WritesOnly [fun u => { u with ie := false },
      fun u => { u with duty := if mute then 127 else u.duty },
      fun u => { u with pstate := .paused }, fun u => u.responded 0 0] s t

/-- R256: RESUME while Paused goes to Playing, enables the interrupt and discards a tick that fell due
during the pause: without a period boundary, no TICK runs and `TF` is clear. -/
def Obligations.ResumeWhilePaused : Prop :=
  ∀ s : State, s.pstate = .paused → ∃ t, exec .resume s = .next t ∧
    t = (({ s with pstate := .playing, ie := true }).responded 0 0).withClockOf t ∧
    (s.ie = false → Quiet 6 s → t.tf = false ∧ NoTick s t) ∧
    WritesOnly [fun u => { u with pstate := .playing }, fun u => { u with tf := false, ie := true },
      fun u => u.responded 0 0] s t

/-- R230, R261: PAUSE outside Playing, RESUME outside Paused and UPDATE outside Playing only respond. -/
def Obligations.WrongStateCommandsOnlyRespond : Prop :=
  (∀ (s : State) (mute : Bool), s.pstate ≠ .playing → ∃ t, exec (.pause mute) s = .next t ∧
    t = (s.responded 0 0).withClockOf t ∧ (s.ie = false → NoTick s t) ∧
    WritesOnly [fun u => u.responded 0 0] s t) ∧
  (∀ s : State, s.pstate ≠ .paused → ∃ t, exec .resume s = .next t ∧
    t = (s.responded 0 0).withClockOf t ∧ (s.ie = false → NoTick s t) ∧
    WritesOnly [fun u => u.responded 0 0] s t) ∧
  (∀ s : State, s.pstate ≠ .playing → ∃ t, exec .update s = .next t ∧
    t = (s.responded 0 0).withClockOf t ∧ (s.ie = false → NoTick s t) ∧
    WritesOnly [fun u => u.responded 0 0] s t)

/-- R251: UPDATE at end of stream without a due loop tears the stream down and answers (OK, 0). -/
def Obligations.UpdateStopsAtEndOfStream : Prop :=
  ∀ s : State, s.pstate = .playing → endOfStream s = true → loopDue s = false →
    ∃ t, exec .update s = .next t ∧
      t = (({ s with
          pstate := .stopped, ie := false, streamActive := false,
          openFile := if s.streamActive then none else s.openFile }).responded 0 0).withClockOf t ∧
      t.duty = 127 ∧ t.rd = s.rd ∧ t.count = s.count ∧
      WritesOnly [fun u => { u with ie := false },
        fun u => { u with openFile := if s.streamActive then none else s.openFile },
        fun u => { u with duty := 127, streamActive := false, pstate := .stopped },
        fun u => u.responded 0 0] s t

/-- R252: UPDATE at end of stream with a due loop replays the retained name: it ends Playing with the
stream restarted, or Stopped with the failure's status. Restarted, the ring was refilled from slot 0 and
the clock's ticks since then took bytes from there: until one does, the output is silent, and until a timer
step falls, none does and `TF` is clear. -/
def Obligations.UpdateRestartsAtEndOfStream : Prop :=
  ∀ s : State, s.pstate = .playing → endOfStream s = true → loopDue s = true →
    OpenOnlyIfActive s →
    ∃ t, exec .update s = .next t ∧
      t = ((s.withStreamOf t).responded t.respStatus 0).withClockOf t ∧
      ((t.respStatus = 0 ∧ StreamStarted s t ∧
          t.count.toNat ≤ t.dataPos.toNat ∧
          t.rd.toNat = (t.dataPos.toNat - t.count.toNat) % s.cfg.bufCap ∧
          (t.count.toNat = t.dataPos.toNat → t.duty = 127) ∧
          (NoTimerStep s t →
            t.tf = false ∧ t.duty = 127 ∧ t.rd = 0 ∧ t.count.toNat = t.dataPos.toNat)) ∨
        ((t.respStatus = 1 ∨ t.respStatus = 2) ∧ StreamStopped t ∧ StreamKept s t ∧
          t.rd = s.rd ∧ t.count = s.count))

/-- R244, R246: UPDATE away from end of stream (data remains; or the ring holds bytes, and no TICK takes
them before the check, which comes after two intervals, log 5) refills: it stays Playing, moves `dataPos`
within the window by the bytes pushed, moves `wr` by as many slots, and writes no other slot of the ring.
It goes on until the bytes held before and those pushed come to `C - MARGIN`, or the data is exhausted, or
`eod` is set (R347). Once the data is exhausted or `eod` is set it reads nothing (R253). Besides these writes
and the response only timer steps and interrupt entries happen, and only they take bytes out of the ring:
without a TICK `rd` and `duty` stay and `count` grows by the bytes pushed. -/
def Obligations.UpdateRefillsTheRing : Prop :=
  ∀ s : State, s.pstate = .playing → s.dataPos.toNat ≤ s.dataSize.toNat →
    s.wr.toNat < s.cfg.bufCap →
    ((s.dataPos.toNat < s.dataSize.toNat ∧ s.eod = false) ∨
      ((s.ie = false ∨ (s.tf = false ∧ Quiet 2 s)) ∧ s.count ≠ 0)) →
    ∃ t, exec .update s = .next t ∧
      t = (({ s with
          rb := t.rb, wr := t.wr, dataPos := t.dataPos, eod := t.eod, cur := t.cur,
          readScript := t.readScript }).responded 0 0).withClockOf t ∧
      s.dataPos.toNat ≤ t.dataPos.toNat ∧ t.dataPos.toNat ≤ s.dataSize.toNat ∧
      t.wr.toNat = slotAfter s.cfg s.wr (t.dataPos.toNat - s.dataPos.toNat) ∧
      (∀ a, (∀ n, n < t.dataPos.toNat - s.dataPos.toNat → a ≠ slotAfter s.cfg s.wr n) →
        readByte t.rb a = readByte s.rb a) ∧
      (s.streamActive = true →
        s.cfg.bufCap - s.cfg.margin ≤ s.count.toNat + (t.dataPos.toNat - s.dataPos.toNat) ∨
        t.dataPos = s.dataSize ∨ t.eod = true) ∧
      (s.dataPos = s.dataSize ∨ s.eod = true → t.dataPos = s.dataPos ∧ t.wr = s.wr) ∧
      (∃ writes : List (State → State), (∀ w ∈ writes, RefillWrite w) ∧
        WritesOnly (writes ++ [fun u => u.responded 0 0]) s t) ∧
      (∃ popped, t.count.toNat + popped =
          s.count.toNat + (t.dataPos.toNat - s.dataPos.toNat) ∧
        (s.rd.toNat < s.cfg.bufCap → t.rd.toNat = slotAfter s.cfg s.rd popped)) ∧
      ((s.ie = false ∨ (s.tf = false ∧ NoTimerStep s t)) →
        t.rd = s.rd ∧ t.duty = s.duty ∧
        t.count.toNat = s.count.toNat + (t.dataPos.toNat - s.dataPos.toNat)) ∧
      (NoTimerStep s t → t.tcnt = s.tcnt ∧ t.reloadActive = s.reloadActive ∧
        (s.ie = false ∨ s.tf = false → t.tf = s.tf))

/-- R347: a REFILL of an active stream, with the interrupt off, leaves the ring at the refill level, or
the data exhausted, or the end-of-data latch set. -/
def Obligations.RefillReachesItsLevel : Prop :=
  ∀ s : State, s.ie = false → s.streamActive = true →
    s.cfg.bufCap - s.cfg.margin ≤ (refill.run s).2.count.toNat ∨
    (refill.run s).2.dataSize.toNat ≤ (refill.run s).2.dataPos.toNat ∨ (refill.run s).2.eod = true

/-- R239: with the interrupt off a second REFILL adds nothing. -/
def Obligations.SecondRefillAddsNothing : Prop :=
  ∀ s : State, s.ie = false → s.streamActive = true → (openBytes s).length ≤ 2 ^ 32 - 1 →
    (refill.run (refill.run s).2).2.rb = (refill.run s).2.rb ∧
    (refill.run (refill.run s).2).2.wr = (refill.run s).2.wr ∧
    (refill.run (refill.run s).2).2.count = (refill.run s).2.count ∧
    (refill.run (refill.run s).2).2.dataPos = (refill.run s).2.dataPos ∧
    (refill.run (refill.run s).2).2.eod = (refill.run s).2.eod

/-- R249(a): the bound on REFILL's loop never cuts it short: more rounds than there are bytes left give the
same state, and the bound is as many. -/
def Obligations.RefillFuelSuffices : Prop :=
  ∀ (s : State) (n : Nat),
    s.dataSize.toNat - s.dataPos.toNat + 1 ≤ refillBound ∧
    (s.dataSize.toNat - s.dataPos.toNat + 1 ≤ n →
      (refillLoop n).run s = (refillLoop (s.dataSize.toNat - s.dataPos.toNat + 1)).run s)

/-- R262: SET_LOOP writes the loop flag and nothing else. -/
def Obligations.SetLoopWritesTheFlag : Prop :=
  ∀ (s : State) (b : Bool), ∃ t, exec (.setLoop b) s = .next t ∧
    t = (({ s with loopFlag := b }).responded 0 0).withClockOf t ∧
    (s.ie = false → NoTick s t) ∧
    WritesOnly [fun u => { u with loopFlag := b }, fun u => u.responded 0 0] s t

/-- R230: what each command does to the playback state. -/
def Obligations.PlaybackTransitions : Prop :=
  ∀ (i : Instr) (s t : State), exec i s = .next t →
    match i with
    | .play _ =>
        (t.respStatus = 0 ∧ t.pstate = .playing) ∨ (t.respStatus ≠ 0 ∧ t.pstate = .stopped)
    | .stop => t.pstate = .stopped
    | .pause _ => t.pstate = if s.pstate = .playing then .paused else s.pstate
    | .resume => t.pstate = if s.pstate = .paused then .playing else s.pstate
    | .update =>
        (s.pstate ≠ .playing → t.pstate = s.pstate) ∧
        (s.pstate = .playing →
          (t.respStatus = 0 ∧
            (t.pstate = .playing ∨ (t.pstate = .stopped ∧ loopDue s = false))) ∨
          (t.respStatus ≠ 0 ∧ t.pstate = .stopped ∧ loopDue s = true))
    | _ => t.pstate = s.pstate

/-- R230: nothing but a PLAY, STOP, PAUSE, RESUME or UPDATE command, offered or running, changes the
playback state; a whole command leads out of Stopped only if it is a PLAY (90_conflicts.md C7). -/
def Obligations.OnlyTheseCommandsChangePlayback : Prop :=
  ∀ s t : State, step s = .next t → t.pstate ≠ s.pstate →
    ∃ w i, ((s.busy = false ∧ ∃ rest, s.host = .offer w :: rest) ∨
        (s.busy = true ∧ ∃ answers, s.seq = .run w answers)) ∧
      decodeWord w = .ok i ∧
      ((∃ name, i = .play name) ∨ i = .stop ∨ (∃ mute, i = .pause mute) ∨ i = .resume ∨
        i = .update) ∧
      (s.busy = false → s.pstate = .stopped → ∃ name, i = .play name)

/-- R259: once Stopped and silent, the output stays at 127 through every step that does not start a
stream. -/
def Obligations.SilenceHoldsWhileStopped : Prop :=
  ∀ s t : State, Inv s → s.pstate = .stopped → s.duty = 127 → step s = .next t →
    t.pstate = .stopped → t.duty = 127

/-! ### Queries -/

/-- R279 to R282, R284: IS_PLAYING, IS_PAUSED, GET_SAMPLE_RATE and GET_LOOP answer their register and
write nothing but the response. -/
def Obligations.QueriesAnswerTheirRegister : Prop :=
  ∀ s : State,
    (∃ t, exec .isPlaying s = .next t ∧
      t = (s.responded 0 (if s.pstate = .playing then 1 else 0)).withClockOf t ∧
      (s.ie = false → NoTick s t) ∧
      WritesOnly [fun u => u.responded 0 (if s.pstate = .playing then 1 else 0)] s t) ∧
    (∃ t, exec .isPaused s = .next t ∧
      t = (s.responded 0 (if s.pstate = .paused then 1 else 0)).withClockOf t ∧
      (s.ie = false → NoTick s t) ∧
      WritesOnly [fun u => u.responded 0 (if s.pstate = .paused then 1 else 0)] s t) ∧
    (∃ t, exec .getSampleRate s = .next t ∧
      t = (s.responded 0 s.sampleRate).withClockOf t ∧ (s.ie = false → NoTick s t) ∧
      WritesOnly [fun u => u.responded 0 s.sampleRate] s t) ∧
    (∃ t, exec .getLoop s = .next t ∧
      t = (s.responded 0 (if s.loopFlag then 1 else 0)).withClockOf t ∧
      (s.ie = false → NoTick s t) ∧
      WritesOnly [fun u => u.responded 0 (if s.loopFlag then 1 else 0)] s t)

/-- R279, R283: GET_BUFFERED answers the occupancy at the instant of its one segment, which is also the
occupancy it leaves. -/
def Obligations.GetBufferedAnswersTheOccupancy : Prop :=
  ∀ s : State, ∃ t, exec .getBuffered s = .next t ∧
    t.respValue.toNat = t.count.toNat ∧
    t = (s.responded 0 t.respValue).withClockOf t ∧ (s.ie = false → NoTick s t) ∧
    WritesOnly [fun u => u.responded 0 (u.count.setWidth 32)] s t
end

