-- ==== Sys2Proof/Laws/Memory.lean ====
section
/-! SUPPORT. The laws of byte storage: a read after a write, and the canonical form that every operation
keeps. -/

namespace Sys2Proof

namespace Machine

/-- A read after a write: the written byte at its address, every other byte as before. -/
theorem readByte_writeByte (m : Memory) (a b : Nat) (v : Byte) :
    readByte (writeByte m a v) b = if a = b then some v else readByte m b := by
  induction m with
  | nil => simp [writeByte, readByte]
  | cons c rest ih =>
    obtain ⟨x, u⟩ := c
    unfold writeByte
    split
    · next hlt =>
      simp only [readByte, ih]
      by_cases hxb : x = b
      · have : a ≠ b := by omega
        simp [hxb, this]
      · simp [hxb]
    · split
      · next hxa =>
        subst hxa
        simp only [readByte]
        split <;> rfl
      · simp [readByte]

/-- The addresses of a written memory: the written one and those listed before. -/
theorem mem_writeByte {m : Memory} {a : Nat} {v : Byte} {c : Host.Cell}
    (h : c ∈ writeByte m a v) : c = (a, v) ∨ c ∈ m := by
  induction m with
  | nil => exact .inl (by simpa [writeByte] using h)
  | cons d rest ih =>
    obtain ⟨x, u⟩ := d
    unfold writeByte at h
    split at h
    · rcases List.mem_cons.mp h with h | h
      · exact .inr (h ▸ List.mem_cons_self ..)
      · exact (ih h).imp id (List.mem_cons_of_mem _)
    · split at h
      · exact (List.mem_cons.mp h).imp id (List.mem_cons_of_mem _)
      · exact List.mem_cons.mp h

/-- A write keeps the canonical form. -/
theorem wf_writeByte (m : Memory) (hm : Memory.wf m = true) (a : Nat) (v : Byte) :
    Memory.wf (writeByte m a v) = true := by
  simp only [Memory.wf, decide_eq_true_eq] at hm ⊢
  induction m with
  | nil => simp [writeByte]
  | cons c rest ih =>
    obtain ⟨x, u⟩ := c
    obtain ⟨hx, hrest⟩ := List.pairwise_cons.mp hm
    unfold writeByte
    split
    · next hlt =>
      refine List.pairwise_cons.mpr ⟨fun d hd => ?_, ih hrest⟩
      rcases mem_writeByte hd with rfl | hd
      · exact hlt
      · exact hx d hd
    · split
      · next hxa => exact List.pairwise_cons.mpr ⟨fun d hd => hxa ▸ hx d hd, hrest⟩
      · next hlt hxa =>
        refine List.pairwise_cons.mpr ⟨fun d hd => ?_, hm⟩
        rcases List.mem_cons.mp hd with rfl | hd
        · simp only; omega
        · have := hx d hd
          simp only at this ⊢; omega

/-- A ring write keeps the canonical form. -/
theorem wf_ringWrite (s : State) (hm : Memory.wf s.rb = true) (i : Nat) (v : Byte) :
    Memory.wf (ringWrite i v s).rb = true := by
  unfold ringWrite
  split
  · exact wf_writeByte _ hm _ _
  · exact hm

/-- PUSH keeps the canonical form. -/
theorem wf_push (s : State) (hm : Memory.wf s.rb = true) (v : Byte) :
    Memory.wf (push v s).2.rb = true := by
  unfold push
  split
  · exact wf_ringWrite s hm _ _
  · exact hm

/-- Pushing bytes keeps the canonical form. -/
theorem wf_pushAll (bytes : List Byte) (s : State) (hm : Memory.wf s.rb = true) :
    Memory.wf (pushAll bytes s).rb = true := by
  induction bytes generalizing s with
  | nil => exact hm
  | cons b rest ih => exact ih _ (wf_push s hm b)

/-- The memory of the reset state is in canonical form. -/
theorem wf_reset : Memory.wf State.reset.rb = true := by decide

end Machine

end Sys2Proof
end

