-- ==== Sys2Proof/Laws/State.lean ====
section
/-! SUPPORT. The fields of every state update: for each, what it writes and that it leaves the other fields
alone, so that no later proof unfolds a record update. -/

namespace Sys2Proof

namespace Machine

/-- The fields after `IE <- 0`. -/
@[simp] theorem disableInterrupt_fields (s : State) :
    (disableInterrupt s).cfg = s.cfg ∧ (disableInterrupt s).files = s.files ∧
    (disableInterrupt s).arg0 = s.arg0 ∧ (disableInterrupt s).arg1 = s.arg1 ∧
    (disableInterrupt s).arg2 = s.arg2 ∧ (disableInterrupt s).arg3 = s.arg3 ∧
    (disableInterrupt s).respStatus = s.respStatus ∧ (disableInterrupt s).respValue = s.respValue ∧
    (disableInterrupt s).busy = s.busy ∧ (disableInterrupt s).seq = s.seq ∧
    (disableInterrupt s).pstate = s.pstate ∧ (disableInterrupt s).loopFlag = s.loopFlag ∧
    (disableInterrupt s).nameReg = s.nameReg ∧ (disableInterrupt s).nameValid = s.nameValid ∧
    (disableInterrupt s).volume = s.volume ∧ (disableInterrupt s).rateQ = s.rateQ ∧
    (disableInterrupt s).storageSel = s.storageSel ∧
    (disableInterrupt s).streamActive = s.streamActive ∧ (disableInterrupt s).dataStart = s.dataStart ∧
    (disableInterrupt s).dataSize = s.dataSize ∧ (disableInterrupt s).dataPos = s.dataPos ∧
    (disableInterrupt s).sampleRate = s.sampleRate ∧ (disableInterrupt s).eod = s.eod ∧
    (disableInterrupt s).rd = s.rd ∧ (disableInterrupt s).wr = s.wr ∧
    (disableInterrupt s).count = s.count ∧ (disableInterrupt s).baseReload = s.baseReload ∧
    (disableInterrupt s).reloadReg = s.reloadReg ∧ (disableInterrupt s).reloadActive = s.reloadActive ∧
    (disableInterrupt s).tcnt = s.tcnt ∧ (disableInterrupt s).tf = s.tf ∧
    (disableInterrupt s).ie = false ∧ (disableInterrupt s).duty = s.duty ∧
    (disableInterrupt s).rb = s.rb ∧ (disableInterrupt s).openFile = s.openFile ∧
    (disableInterrupt s).cur = s.cur ∧ (disableInterrupt s).respValid = s.respValid ∧
    (disableInterrupt s).host = s.host ∧ (disableInterrupt s).timerScript = s.timerScript ∧
    (disableInterrupt s).openScript = s.openScript ∧ (disableInterrupt s).readScript = s.readScript ∧
    (disableInterrupt s).draws = s.draws := by
  and_intros <;> rfl

/-- The fields after `TF <- 0; IE <- 1`. -/
@[simp] theorem clearPendingAndEnable_fields (s : State) :
    (clearPendingAndEnable s).cfg = s.cfg ∧ (clearPendingAndEnable s).files = s.files ∧
    (clearPendingAndEnable s).arg0 = s.arg0 ∧ (clearPendingAndEnable s).arg1 = s.arg1 ∧
    (clearPendingAndEnable s).arg2 = s.arg2 ∧ (clearPendingAndEnable s).arg3 = s.arg3 ∧
    (clearPendingAndEnable s).respStatus = s.respStatus ∧
    (clearPendingAndEnable s).respValue = s.respValue ∧ (clearPendingAndEnable s).busy = s.busy ∧
    (clearPendingAndEnable s).seq = s.seq ∧ (clearPendingAndEnable s).pstate = s.pstate ∧
    (clearPendingAndEnable s).loopFlag = s.loopFlag ∧ (clearPendingAndEnable s).nameReg = s.nameReg ∧
    (clearPendingAndEnable s).nameValid = s.nameValid ∧ (clearPendingAndEnable s).volume = s.volume ∧
    (clearPendingAndEnable s).rateQ = s.rateQ ∧ (clearPendingAndEnable s).storageSel = s.storageSel ∧
    (clearPendingAndEnable s).streamActive = s.streamActive ∧
    (clearPendingAndEnable s).dataStart = s.dataStart ∧
    (clearPendingAndEnable s).dataSize = s.dataSize ∧ (clearPendingAndEnable s).dataPos = s.dataPos ∧
    (clearPendingAndEnable s).sampleRate = s.sampleRate ∧ (clearPendingAndEnable s).eod = s.eod ∧
    (clearPendingAndEnable s).rd = s.rd ∧ (clearPendingAndEnable s).wr = s.wr ∧
    (clearPendingAndEnable s).count = s.count ∧ (clearPendingAndEnable s).baseReload = s.baseReload ∧
    (clearPendingAndEnable s).reloadReg = s.reloadReg ∧
    (clearPendingAndEnable s).reloadActive = s.reloadActive ∧ (clearPendingAndEnable s).tcnt = s.tcnt ∧
    (clearPendingAndEnable s).tf = false ∧ (clearPendingAndEnable s).ie = true ∧
    (clearPendingAndEnable s).duty = s.duty ∧ (clearPendingAndEnable s).rb = s.rb ∧
    (clearPendingAndEnable s).openFile = s.openFile ∧ (clearPendingAndEnable s).cur = s.cur ∧
    (clearPendingAndEnable s).respValid = s.respValid ∧ (clearPendingAndEnable s).host = s.host ∧
    (clearPendingAndEnable s).timerScript = s.timerScript ∧
    (clearPendingAndEnable s).openScript = s.openScript ∧
    (clearPendingAndEnable s).readScript = s.readScript ∧
    (clearPendingAndEnable s).draws = s.draws := by
  and_intros <;> rfl

/-- The fields after `eod <- 1`. -/
@[simp] theorem latchEndOfData_fields (s : State) :
    (latchEndOfData s).cfg = s.cfg ∧ (latchEndOfData s).files = s.files ∧
    (latchEndOfData s).arg0 = s.arg0 ∧ (latchEndOfData s).arg1 = s.arg1 ∧
    (latchEndOfData s).arg2 = s.arg2 ∧ (latchEndOfData s).arg3 = s.arg3 ∧
    (latchEndOfData s).respStatus = s.respStatus ∧ (latchEndOfData s).respValue = s.respValue ∧
    (latchEndOfData s).busy = s.busy ∧ (latchEndOfData s).seq = s.seq ∧
    (latchEndOfData s).pstate = s.pstate ∧ (latchEndOfData s).loopFlag = s.loopFlag ∧
    (latchEndOfData s).nameReg = s.nameReg ∧ (latchEndOfData s).nameValid = s.nameValid ∧
    (latchEndOfData s).volume = s.volume ∧ (latchEndOfData s).rateQ = s.rateQ ∧
    (latchEndOfData s).storageSel = s.storageSel ∧ (latchEndOfData s).streamActive = s.streamActive ∧
    (latchEndOfData s).dataStart = s.dataStart ∧ (latchEndOfData s).dataSize = s.dataSize ∧
    (latchEndOfData s).dataPos = s.dataPos ∧ (latchEndOfData s).sampleRate = s.sampleRate ∧
    (latchEndOfData s).eod = true ∧ (latchEndOfData s).rd = s.rd ∧ (latchEndOfData s).wr = s.wr ∧
    (latchEndOfData s).count = s.count ∧ (latchEndOfData s).baseReload = s.baseReload ∧
    (latchEndOfData s).reloadReg = s.reloadReg ∧ (latchEndOfData s).reloadActive = s.reloadActive ∧
    (latchEndOfData s).tcnt = s.tcnt ∧ (latchEndOfData s).tf = s.tf ∧ (latchEndOfData s).ie = s.ie ∧
    (latchEndOfData s).duty = s.duty ∧ (latchEndOfData s).rb = s.rb ∧
    (latchEndOfData s).openFile = s.openFile ∧ (latchEndOfData s).cur = s.cur ∧
    (latchEndOfData s).respValid = s.respValid ∧ (latchEndOfData s).host = s.host ∧
    (latchEndOfData s).timerScript = s.timerScript ∧ (latchEndOfData s).openScript = s.openScript ∧
    (latchEndOfData s).readScript = s.readScript ∧ (latchEndOfData s).draws = s.draws := by
  and_intros <;> rfl

/-- The fields after the sequencer moved on. -/
@[simp] theorem advanceSeq_fields (a : Answer) (s : State) :
    (advanceSeq a s).cfg = s.cfg ∧ (advanceSeq a s).files = s.files ∧ (advanceSeq a s).arg0 = s.arg0 ∧
    (advanceSeq a s).arg1 = s.arg1 ∧ (advanceSeq a s).arg2 = s.arg2 ∧ (advanceSeq a s).arg3 = s.arg3 ∧
    (advanceSeq a s).respStatus = s.respStatus ∧ (advanceSeq a s).respValue = s.respValue ∧
    (advanceSeq a s).busy = s.busy ∧ (advanceSeq a s).pstate = s.pstate ∧
    (advanceSeq a s).loopFlag = s.loopFlag ∧ (advanceSeq a s).nameReg = s.nameReg ∧
    (advanceSeq a s).nameValid = s.nameValid ∧ (advanceSeq a s).volume = s.volume ∧
    (advanceSeq a s).rateQ = s.rateQ ∧ (advanceSeq a s).storageSel = s.storageSel ∧
    (advanceSeq a s).streamActive = s.streamActive ∧ (advanceSeq a s).dataStart = s.dataStart ∧
    (advanceSeq a s).dataSize = s.dataSize ∧ (advanceSeq a s).dataPos = s.dataPos ∧
    (advanceSeq a s).sampleRate = s.sampleRate ∧ (advanceSeq a s).eod = s.eod ∧
    (advanceSeq a s).rd = s.rd ∧ (advanceSeq a s).wr = s.wr ∧ (advanceSeq a s).count = s.count ∧
    (advanceSeq a s).baseReload = s.baseReload ∧ (advanceSeq a s).reloadReg = s.reloadReg ∧
    (advanceSeq a s).reloadActive = s.reloadActive ∧ (advanceSeq a s).tcnt = s.tcnt ∧
    (advanceSeq a s).tf = s.tf ∧ (advanceSeq a s).ie = s.ie ∧ (advanceSeq a s).duty = s.duty ∧
    (advanceSeq a s).rb = s.rb ∧ (advanceSeq a s).openFile = s.openFile ∧
    (advanceSeq a s).cur = s.cur ∧ (advanceSeq a s).respValid = s.respValid ∧
    (advanceSeq a s).host = s.host ∧ (advanceSeq a s).timerScript = s.timerScript ∧
    (advanceSeq a s).openScript = s.openScript ∧ (advanceSeq a s).readScript = s.readScript ∧
    (advanceSeq a s).draws = s.draws := by
  and_intros <;> rfl

/-- The fields after RING_RESET. -/
@[simp] theorem ringReset_fields (s : State) :
    (ringReset s).cfg = s.cfg ∧ (ringReset s).files = s.files ∧ (ringReset s).arg0 = s.arg0 ∧
    (ringReset s).arg1 = s.arg1 ∧ (ringReset s).arg2 = s.arg2 ∧ (ringReset s).arg3 = s.arg3 ∧
    (ringReset s).respStatus = s.respStatus ∧ (ringReset s).respValue = s.respValue ∧
    (ringReset s).busy = s.busy ∧ (ringReset s).seq = s.seq ∧ (ringReset s).pstate = s.pstate ∧
    (ringReset s).loopFlag = s.loopFlag ∧ (ringReset s).nameReg = s.nameReg ∧
    (ringReset s).nameValid = s.nameValid ∧ (ringReset s).volume = s.volume ∧
    (ringReset s).rateQ = s.rateQ ∧ (ringReset s).storageSel = s.storageSel ∧
    (ringReset s).streamActive = s.streamActive ∧ (ringReset s).dataStart = s.dataStart ∧
    (ringReset s).dataSize = s.dataSize ∧ (ringReset s).dataPos = s.dataPos ∧
    (ringReset s).sampleRate = s.sampleRate ∧ (ringReset s).eod = s.eod ∧ (ringReset s).rd = 0 ∧
    (ringReset s).wr = 0 ∧ (ringReset s).count = 0 ∧ (ringReset s).baseReload = s.baseReload ∧
    (ringReset s).reloadReg = s.reloadReg ∧ (ringReset s).reloadActive = s.reloadActive ∧
    (ringReset s).tcnt = s.tcnt ∧ (ringReset s).tf = s.tf ∧ (ringReset s).ie = s.ie ∧
    (ringReset s).duty = s.duty ∧ (ringReset s).rb = s.rb ∧ (ringReset s).openFile = s.openFile ∧
    (ringReset s).cur = s.cur ∧ (ringReset s).respValid = s.respValid ∧ (ringReset s).host = s.host ∧
    (ringReset s).timerScript = s.timerScript ∧ (ringReset s).openScript = s.openScript ∧
    (ringReset s).readScript = s.readScript ∧ (ringReset s).draws = s.draws := by
  and_intros <;> rfl

/-- The fields after StSeek. -/
@[simp] theorem stSeek_fields (pos : Nat) (s : State) :
    (stSeek pos s).cfg = s.cfg ∧ (stSeek pos s).files = s.files ∧ (stSeek pos s).arg0 = s.arg0 ∧
    (stSeek pos s).arg1 = s.arg1 ∧ (stSeek pos s).arg2 = s.arg2 ∧ (stSeek pos s).arg3 = s.arg3 ∧
    (stSeek pos s).respStatus = s.respStatus ∧ (stSeek pos s).respValue = s.respValue ∧
    (stSeek pos s).busy = s.busy ∧ (stSeek pos s).seq = s.seq ∧ (stSeek pos s).pstate = s.pstate ∧
    (stSeek pos s).loopFlag = s.loopFlag ∧ (stSeek pos s).nameReg = s.nameReg ∧
    (stSeek pos s).nameValid = s.nameValid ∧ (stSeek pos s).volume = s.volume ∧
    (stSeek pos s).rateQ = s.rateQ ∧ (stSeek pos s).storageSel = s.storageSel ∧
    (stSeek pos s).streamActive = s.streamActive ∧ (stSeek pos s).dataStart = s.dataStart ∧
    (stSeek pos s).dataSize = s.dataSize ∧ (stSeek pos s).dataPos = s.dataPos ∧
    (stSeek pos s).sampleRate = s.sampleRate ∧ (stSeek pos s).eod = s.eod ∧ (stSeek pos s).rd = s.rd ∧
    (stSeek pos s).wr = s.wr ∧ (stSeek pos s).count = s.count ∧
    (stSeek pos s).baseReload = s.baseReload ∧ (stSeek pos s).reloadReg = s.reloadReg ∧
    (stSeek pos s).reloadActive = s.reloadActive ∧ (stSeek pos s).tcnt = s.tcnt ∧
    (stSeek pos s).tf = s.tf ∧ (stSeek pos s).ie = s.ie ∧ (stSeek pos s).duty = s.duty ∧
    (stSeek pos s).rb = s.rb ∧ (stSeek pos s).openFile = s.openFile ∧
    (stSeek pos s).cur = BitVec.ofNat 32 pos ∧ (stSeek pos s).respValid = s.respValid ∧
    (stSeek pos s).host = s.host ∧ (stSeek pos s).timerScript = s.timerScript ∧
    (stSeek pos s).openScript = s.openScript ∧ (stSeek pos s).readScript = s.readScript ∧
    (stSeek pos s).draws = s.draws := by
  and_intros <;> rfl

/-- The fields after StClose. -/
@[simp] theorem stClose_fields (s : State) :
    (stClose s).cfg = s.cfg ∧ (stClose s).files = s.files ∧ (stClose s).arg0 = s.arg0 ∧
    (stClose s).arg1 = s.arg1 ∧ (stClose s).arg2 = s.arg2 ∧ (stClose s).arg3 = s.arg3 ∧
    (stClose s).respStatus = s.respStatus ∧ (stClose s).respValue = s.respValue ∧
    (stClose s).busy = s.busy ∧ (stClose s).seq = s.seq ∧ (stClose s).pstate = s.pstate ∧
    (stClose s).loopFlag = s.loopFlag ∧ (stClose s).nameReg = s.nameReg ∧
    (stClose s).nameValid = s.nameValid ∧ (stClose s).volume = s.volume ∧ (stClose s).rateQ = s.rateQ ∧
    (stClose s).storageSel = s.storageSel ∧ (stClose s).streamActive = s.streamActive ∧
    (stClose s).dataStart = s.dataStart ∧ (stClose s).dataSize = s.dataSize ∧
    (stClose s).dataPos = s.dataPos ∧ (stClose s).sampleRate = s.sampleRate ∧ (stClose s).eod = s.eod ∧
    (stClose s).rd = s.rd ∧ (stClose s).wr = s.wr ∧ (stClose s).count = s.count ∧
    (stClose s).baseReload = s.baseReload ∧ (stClose s).reloadReg = s.reloadReg ∧
    (stClose s).reloadActive = s.reloadActive ∧ (stClose s).tcnt = s.tcnt ∧ (stClose s).tf = s.tf ∧
    (stClose s).ie = s.ie ∧ (stClose s).duty = s.duty ∧ (stClose s).rb = s.rb ∧
    (stClose s).openFile = none ∧ (stClose s).cur = s.cur ∧ (stClose s).respValid = s.respValid ∧
    (stClose s).host = s.host ∧ (stClose s).timerScript = s.timerScript ∧
    (stClose s).openScript = s.openScript ∧ (stClose s).readScript = s.readScript ∧
    (stClose s).draws = s.draws := by
  and_intros <;> rfl

/-- The fields after acceptance. -/
@[simp] theorem acceptWord_fields (w : Word) (s : State) :
    (acceptWord w s).cfg = s.cfg ∧ (acceptWord w s).files = s.files ∧ (acceptWord w s).arg0 = s.arg0 ∧
    (acceptWord w s).arg1 = s.arg1 ∧ (acceptWord w s).arg2 = s.arg2 ∧ (acceptWord w s).arg3 = s.arg3 ∧
    (acceptWord w s).respStatus = s.respStatus ∧ (acceptWord w s).respValue = s.respValue ∧
    (acceptWord w s).busy = true ∧ (acceptWord w s).seq = .run w [] ∧
    (acceptWord w s).pstate = s.pstate ∧ (acceptWord w s).loopFlag = s.loopFlag ∧
    (acceptWord w s).nameReg = s.nameReg ∧ (acceptWord w s).nameValid = s.nameValid ∧
    (acceptWord w s).volume = s.volume ∧ (acceptWord w s).rateQ = s.rateQ ∧
    (acceptWord w s).storageSel = s.storageSel ∧ (acceptWord w s).streamActive = s.streamActive ∧
    (acceptWord w s).dataStart = s.dataStart ∧ (acceptWord w s).dataSize = s.dataSize ∧
    (acceptWord w s).dataPos = s.dataPos ∧ (acceptWord w s).sampleRate = s.sampleRate ∧
    (acceptWord w s).eod = s.eod ∧ (acceptWord w s).rd = s.rd ∧ (acceptWord w s).wr = s.wr ∧
    (acceptWord w s).count = s.count ∧ (acceptWord w s).baseReload = s.baseReload ∧
    (acceptWord w s).reloadReg = s.reloadReg ∧ (acceptWord w s).reloadActive = s.reloadActive ∧
    (acceptWord w s).tcnt = s.tcnt ∧ (acceptWord w s).tf = s.tf ∧ (acceptWord w s).ie = s.ie ∧
    (acceptWord w s).duty = s.duty ∧ (acceptWord w s).rb = s.rb ∧
    (acceptWord w s).openFile = s.openFile ∧ (acceptWord w s).cur = s.cur ∧
    (acceptWord w s).respValid = false ∧ (acceptWord w s).host = s.host ∧
    (acceptWord w s).timerScript = s.timerScript ∧ (acceptWord w s).openScript = s.openScript ∧
    (acceptWord w s).readScript = s.readScript ∧ (acceptWord w s).draws = s.draws := by
  and_intros <;> rfl

/-- The fields after `finish`. -/
@[simp] theorem finish_fields (st : Status) (v : Word) (s : State) :
    (finish st v s).cfg = s.cfg ∧ (finish st v s).files = s.files ∧ (finish st v s).arg0 = s.arg0 ∧
    (finish st v s).arg1 = s.arg1 ∧ (finish st v s).arg2 = s.arg2 ∧ (finish st v s).arg3 = s.arg3 ∧
    (finish st v s).respStatus = statusCode st ∧ (finish st v s).respValue = v ∧
    (finish st v s).busy = false ∧ (finish st v s).seq = .idle ∧ (finish st v s).pstate = s.pstate ∧
    (finish st v s).loopFlag = s.loopFlag ∧ (finish st v s).nameReg = s.nameReg ∧
    (finish st v s).nameValid = s.nameValid ∧ (finish st v s).volume = s.volume ∧
    (finish st v s).rateQ = s.rateQ ∧ (finish st v s).storageSel = s.storageSel ∧
    (finish st v s).streamActive = s.streamActive ∧ (finish st v s).dataStart = s.dataStart ∧
    (finish st v s).dataSize = s.dataSize ∧ (finish st v s).dataPos = s.dataPos ∧
    (finish st v s).sampleRate = s.sampleRate ∧ (finish st v s).eod = s.eod ∧
    (finish st v s).rd = s.rd ∧ (finish st v s).wr = s.wr ∧ (finish st v s).count = s.count ∧
    (finish st v s).baseReload = s.baseReload ∧ (finish st v s).reloadReg = s.reloadReg ∧
    (finish st v s).reloadActive = s.reloadActive ∧ (finish st v s).tcnt = s.tcnt ∧
    (finish st v s).tf = s.tf ∧ (finish st v s).ie = s.ie ∧ (finish st v s).duty = s.duty ∧
    (finish st v s).rb = s.rb ∧ (finish st v s).openFile = s.openFile ∧ (finish st v s).cur = s.cur ∧
    (finish st v s).respValid = true ∧ (finish st v s).host = s.host ∧
    (finish st v s).timerScript = s.timerScript ∧ (finish st v s).openScript = s.openScript ∧
    (finish st v s).readScript = s.readScript ∧ (finish st v s).draws = s.draws := by
  and_intros <;> rfl

/-- The fields after TEARDOWN's last segment. -/
@[simp] theorem silenceAndStop_fields (s : State) :
    (silenceAndStop s).cfg = s.cfg ∧ (silenceAndStop s).files = s.files ∧
    (silenceAndStop s).arg0 = s.arg0 ∧ (silenceAndStop s).arg1 = s.arg1 ∧
    (silenceAndStop s).arg2 = s.arg2 ∧ (silenceAndStop s).arg3 = s.arg3 ∧
    (silenceAndStop s).respStatus = s.respStatus ∧ (silenceAndStop s).respValue = s.respValue ∧
    (silenceAndStop s).busy = s.busy ∧ (silenceAndStop s).seq = s.seq ∧
    (silenceAndStop s).pstate = .stopped ∧ (silenceAndStop s).loopFlag = s.loopFlag ∧
    (silenceAndStop s).nameReg = s.nameReg ∧ (silenceAndStop s).nameValid = s.nameValid ∧
    (silenceAndStop s).volume = s.volume ∧ (silenceAndStop s).rateQ = s.rateQ ∧
    (silenceAndStop s).storageSel = s.storageSel ∧ (silenceAndStop s).streamActive = false ∧
    (silenceAndStop s).dataStart = s.dataStart ∧ (silenceAndStop s).dataSize = s.dataSize ∧
    (silenceAndStop s).dataPos = s.dataPos ∧ (silenceAndStop s).sampleRate = s.sampleRate ∧
    (silenceAndStop s).eod = s.eod ∧ (silenceAndStop s).rd = s.rd ∧ (silenceAndStop s).wr = s.wr ∧
    (silenceAndStop s).count = s.count ∧ (silenceAndStop s).baseReload = s.baseReload ∧
    (silenceAndStop s).reloadReg = s.reloadReg ∧ (silenceAndStop s).reloadActive = s.reloadActive ∧
    (silenceAndStop s).tcnt = s.tcnt ∧ (silenceAndStop s).tf = s.tf ∧ (silenceAndStop s).ie = s.ie ∧
    (silenceAndStop s).duty = Config.silence ∧ (silenceAndStop s).rb = s.rb ∧
    (silenceAndStop s).openFile = s.openFile ∧ (silenceAndStop s).cur = s.cur ∧
    (silenceAndStop s).respValid = s.respValid ∧ (silenceAndStop s).host = s.host ∧
    (silenceAndStop s).timerScript = s.timerScript ∧ (silenceAndStop s).openScript = s.openScript ∧
    (silenceAndStop s).readScript = s.readScript ∧ (silenceAndStop s).draws = s.draws := by
  and_intros <;> rfl

/-- The fields after APPLY_RATE's write. -/
@[simp] theorem writeReload_fields (r : Nat) (s : State) :
    (writeReload r s).cfg = s.cfg ∧ (writeReload r s).files = s.files ∧
    (writeReload r s).arg0 = s.arg0 ∧ (writeReload r s).arg1 = s.arg1 ∧
    (writeReload r s).arg2 = s.arg2 ∧ (writeReload r s).arg3 = s.arg3 ∧
    (writeReload r s).respStatus = s.respStatus ∧ (writeReload r s).respValue = s.respValue ∧
    (writeReload r s).busy = s.busy ∧ (writeReload r s).seq = s.seq ∧
    (writeReload r s).pstate = s.pstate ∧ (writeReload r s).loopFlag = s.loopFlag ∧
    (writeReload r s).nameReg = s.nameReg ∧ (writeReload r s).nameValid = s.nameValid ∧
    (writeReload r s).volume = s.volume ∧ (writeReload r s).rateQ = s.rateQ ∧
    (writeReload r s).storageSel = s.storageSel ∧ (writeReload r s).streamActive = s.streamActive ∧
    (writeReload r s).dataStart = s.dataStart ∧ (writeReload r s).dataSize = s.dataSize ∧
    (writeReload r s).dataPos = s.dataPos ∧ (writeReload r s).sampleRate = s.sampleRate ∧
    (writeReload r s).eod = s.eod ∧ (writeReload r s).rd = s.rd ∧ (writeReload r s).wr = s.wr ∧
    (writeReload r s).count = s.count ∧ (writeReload r s).baseReload = s.baseReload ∧
    (writeReload r s).reloadReg = BitVec.ofNat 16 r ∧ (writeReload r s).reloadActive = s.reloadActive ∧
    (writeReload r s).tcnt = s.tcnt ∧ (writeReload r s).tf = s.tf ∧ (writeReload r s).ie = s.ie ∧
    (writeReload r s).duty = s.duty ∧ (writeReload r s).rb = s.rb ∧
    (writeReload r s).openFile = s.openFile ∧ (writeReload r s).cur = s.cur ∧
    (writeReload r s).respValid = s.respValid ∧ (writeReload r s).host = s.host ∧
    (writeReload r s).timerScript = s.timerScript ∧ (writeReload r s).openScript = s.openScript ∧
    (writeReload r s).readScript = s.readScript ∧ (writeReload r s).draws = s.draws := by
  and_intros <;> rfl

/-- The fields after the write of `rateQ`. -/
@[simp] theorem writeRate_fields (x : Int) (s : State) :
    (writeRate x s).cfg = s.cfg ∧ (writeRate x s).files = s.files ∧ (writeRate x s).arg0 = s.arg0 ∧
    (writeRate x s).arg1 = s.arg1 ∧ (writeRate x s).arg2 = s.arg2 ∧ (writeRate x s).arg3 = s.arg3 ∧
    (writeRate x s).respStatus = s.respStatus ∧ (writeRate x s).respValue = s.respValue ∧
    (writeRate x s).busy = s.busy ∧ (writeRate x s).seq = s.seq ∧ (writeRate x s).pstate = s.pstate ∧
    (writeRate x s).loopFlag = s.loopFlag ∧ (writeRate x s).nameReg = s.nameReg ∧
    (writeRate x s).nameValid = s.nameValid ∧ (writeRate x s).volume = s.volume ∧
    (writeRate x s).rateQ = BitVec.ofNat 24 (clampRate x) ∧ (writeRate x s).storageSel = s.storageSel ∧
    (writeRate x s).streamActive = s.streamActive ∧ (writeRate x s).dataStart = s.dataStart ∧
    (writeRate x s).dataSize = s.dataSize ∧ (writeRate x s).dataPos = s.dataPos ∧
    (writeRate x s).sampleRate = s.sampleRate ∧ (writeRate x s).eod = s.eod ∧
    (writeRate x s).rd = s.rd ∧ (writeRate x s).wr = s.wr ∧ (writeRate x s).count = s.count ∧
    (writeRate x s).baseReload = s.baseReload ∧ (writeRate x s).reloadReg = s.reloadReg ∧
    (writeRate x s).reloadActive = s.reloadActive ∧ (writeRate x s).tcnt = s.tcnt ∧
    (writeRate x s).tf = s.tf ∧ (writeRate x s).ie = s.ie ∧ (writeRate x s).duty = s.duty ∧
    (writeRate x s).rb = s.rb ∧ (writeRate x s).openFile = s.openFile ∧ (writeRate x s).cur = s.cur ∧
    (writeRate x s).respValid = s.respValid ∧ (writeRate x s).host = s.host ∧
    (writeRate x s).timerScript = s.timerScript ∧ (writeRate x s).openScript = s.openScript ∧
    (writeRate x s).readScript = s.readScript ∧ (writeRate x s).draws = s.draws := by
  and_intros <;> rfl

/-- The fields after the write of `baseReload`. -/
@[simp] theorem writeBaseReload_fields (s : State) :
    (writeBaseReload s).cfg = s.cfg ∧ (writeBaseReload s).files = s.files ∧
    (writeBaseReload s).arg0 = s.arg0 ∧ (writeBaseReload s).arg1 = s.arg1 ∧
    (writeBaseReload s).arg2 = s.arg2 ∧ (writeBaseReload s).arg3 = s.arg3 ∧
    (writeBaseReload s).respStatus = s.respStatus ∧ (writeBaseReload s).respValue = s.respValue ∧
    (writeBaseReload s).busy = s.busy ∧ (writeBaseReload s).seq = s.seq ∧
    (writeBaseReload s).pstate = s.pstate ∧ (writeBaseReload s).loopFlag = s.loopFlag ∧
    (writeBaseReload s).nameReg = s.nameReg ∧ (writeBaseReload s).nameValid = s.nameValid ∧
    (writeBaseReload s).volume = s.volume ∧ (writeBaseReload s).rateQ = s.rateQ ∧
    (writeBaseReload s).storageSel = s.storageSel ∧ (writeBaseReload s).streamActive = s.streamActive ∧
    (writeBaseReload s).dataStart = s.dataStart ∧ (writeBaseReload s).dataSize = s.dataSize ∧
    (writeBaseReload s).dataPos = s.dataPos ∧ (writeBaseReload s).sampleRate = s.sampleRate ∧
    (writeBaseReload s).eod = s.eod ∧ (writeBaseReload s).rd = s.rd ∧ (writeBaseReload s).wr = s.wr ∧
    (writeBaseReload s).count = s.count ∧
    (writeBaseReload s).baseReload = BitVec.ofNat 16 (basePeriod s.cfg s.sampleRate.toNat) ∧
    (writeBaseReload s).reloadReg = s.reloadReg ∧ (writeBaseReload s).reloadActive = s.reloadActive ∧
    (writeBaseReload s).tcnt = s.tcnt ∧ (writeBaseReload s).tf = s.tf ∧ (writeBaseReload s).ie = s.ie ∧
    (writeBaseReload s).duty = s.duty ∧ (writeBaseReload s).rb = s.rb ∧
    (writeBaseReload s).openFile = s.openFile ∧ (writeBaseReload s).cur = s.cur ∧
    (writeBaseReload s).respValid = s.respValid ∧ (writeBaseReload s).host = s.host ∧
    (writeBaseReload s).timerScript = s.timerScript ∧ (writeBaseReload s).openScript = s.openScript ∧
    (writeBaseReload s).readScript = s.readScript ∧ (writeBaseReload s).draws = s.draws := by
  and_intros <;> rfl

/-- The fields after PLAY's commit. -/
@[simp] theorem commitStream_fields (start size rate : Word) (s : State) :
    (commitStream start size rate s).cfg = s.cfg ∧ (commitStream start size rate s).files = s.files ∧
    (commitStream start size rate s).arg0 = s.arg0 ∧ (commitStream start size rate s).arg1 = s.arg1 ∧
    (commitStream start size rate s).arg2 = s.arg2 ∧ (commitStream start size rate s).arg3 = s.arg3 ∧
    (commitStream start size rate s).respStatus = s.respStatus ∧
    (commitStream start size rate s).respValue = s.respValue ∧
    (commitStream start size rate s).busy = s.busy ∧ (commitStream start size rate s).seq = s.seq ∧
    (commitStream start size rate s).pstate = .playing ∧
    (commitStream start size rate s).loopFlag = s.loopFlag ∧
    (commitStream start size rate s).nameReg = s.nameReg ∧
    (commitStream start size rate s).nameValid = s.nameValid ∧
    (commitStream start size rate s).volume = s.volume ∧
    (commitStream start size rate s).rateQ = s.rateQ ∧
    (commitStream start size rate s).storageSel = s.storageSel ∧
    (commitStream start size rate s).streamActive = true ∧
    (commitStream start size rate s).dataStart = start ∧
    (commitStream start size rate s).dataSize = size ∧ (commitStream start size rate s).dataPos = 0 ∧
    (commitStream start size rate s).sampleRate = rate ∧ (commitStream start size rate s).eod = false ∧
    (commitStream start size rate s).rd = 0 ∧ (commitStream start size rate s).wr = 0 ∧
    (commitStream start size rate s).count = 0 ∧
    (commitStream start size rate s).baseReload = s.baseReload ∧
    (commitStream start size rate s).reloadReg = s.reloadReg ∧
    (commitStream start size rate s).reloadActive = s.reloadActive ∧
    (commitStream start size rate s).tcnt = s.tcnt ∧ (commitStream start size rate s).tf = s.tf ∧
    (commitStream start size rate s).ie = s.ie ∧ (commitStream start size rate s).duty = s.duty ∧
    (commitStream start size rate s).rb = s.rb ∧
    (commitStream start size rate s).openFile = s.openFile ∧
    (commitStream start size rate s).cur = s.cur ∧
    (commitStream start size rate s).respValid = s.respValid ∧
    (commitStream start size rate s).host = s.host ∧
    (commitStream start size rate s).timerScript = s.timerScript ∧
    (commitStream start size rate s).openScript = s.openScript ∧
    (commitStream start size rate s).readScript = s.readScript ∧
    (commitStream start size rate s).draws = s.draws := by
  and_intros <;> rfl

/-- The fields after the advance of `dataPos`. -/
@[simp] theorem advancePos_fields (k : Nat) (s : State) :
    (advancePos k s).cfg = s.cfg ∧ (advancePos k s).files = s.files ∧ (advancePos k s).arg0 = s.arg0 ∧
    (advancePos k s).arg1 = s.arg1 ∧ (advancePos k s).arg2 = s.arg2 ∧ (advancePos k s).arg3 = s.arg3 ∧
    (advancePos k s).respStatus = s.respStatus ∧ (advancePos k s).respValue = s.respValue ∧
    (advancePos k s).busy = s.busy ∧ (advancePos k s).seq = s.seq ∧
    (advancePos k s).pstate = s.pstate ∧ (advancePos k s).loopFlag = s.loopFlag ∧
    (advancePos k s).nameReg = s.nameReg ∧ (advancePos k s).nameValid = s.nameValid ∧
    (advancePos k s).volume = s.volume ∧ (advancePos k s).rateQ = s.rateQ ∧
    (advancePos k s).storageSel = s.storageSel ∧ (advancePos k s).streamActive = s.streamActive ∧
    (advancePos k s).dataStart = s.dataStart ∧ (advancePos k s).dataSize = s.dataSize ∧
    (advancePos k s).dataPos = BitVec.ofNat 32 (s.dataPos.toNat + k) ∧
    (advancePos k s).sampleRate = s.sampleRate ∧ (advancePos k s).eod = s.eod ∧
    (advancePos k s).rd = s.rd ∧ (advancePos k s).wr = s.wr ∧ (advancePos k s).count = s.count ∧
    (advancePos k s).baseReload = s.baseReload ∧ (advancePos k s).reloadReg = s.reloadReg ∧
    (advancePos k s).reloadActive = s.reloadActive ∧ (advancePos k s).tcnt = s.tcnt ∧
    (advancePos k s).tf = s.tf ∧ (advancePos k s).ie = s.ie ∧ (advancePos k s).duty = s.duty ∧
    (advancePos k s).rb = s.rb ∧ (advancePos k s).openFile = s.openFile ∧
    (advancePos k s).cur = s.cur ∧ (advancePos k s).respValid = s.respValid ∧
    (advancePos k s).host = s.host ∧ (advancePos k s).timerScript = s.timerScript ∧
    (advancePos k s).openScript = s.openScript ∧ (advancePos k s).readScript = s.readScript ∧
    (advancePos k s).draws = s.draws := by
  and_intros <;> rfl

/-- The fields after the write of `storageSel`. -/
@[simp] theorem writeStorageSel_fields (sel : BitVec 8) (s : State) :
    (writeStorageSel sel s).cfg = s.cfg ∧ (writeStorageSel sel s).files = s.files ∧
    (writeStorageSel sel s).arg0 = s.arg0 ∧ (writeStorageSel sel s).arg1 = s.arg1 ∧
    (writeStorageSel sel s).arg2 = s.arg2 ∧ (writeStorageSel sel s).arg3 = s.arg3 ∧
    (writeStorageSel sel s).respStatus = s.respStatus ∧
    (writeStorageSel sel s).respValue = s.respValue ∧ (writeStorageSel sel s).busy = s.busy ∧
    (writeStorageSel sel s).seq = s.seq ∧ (writeStorageSel sel s).pstate = s.pstate ∧
    (writeStorageSel sel s).loopFlag = s.loopFlag ∧ (writeStorageSel sel s).nameReg = s.nameReg ∧
    (writeStorageSel sel s).nameValid = s.nameValid ∧ (writeStorageSel sel s).volume = s.volume ∧
    (writeStorageSel sel s).rateQ = s.rateQ ∧ (writeStorageSel sel s).storageSel = sel ∧
    (writeStorageSel sel s).streamActive = s.streamActive ∧
    (writeStorageSel sel s).dataStart = s.dataStart ∧ (writeStorageSel sel s).dataSize = s.dataSize ∧
    (writeStorageSel sel s).dataPos = s.dataPos ∧ (writeStorageSel sel s).sampleRate = s.sampleRate ∧
    (writeStorageSel sel s).eod = s.eod ∧ (writeStorageSel sel s).rd = s.rd ∧
    (writeStorageSel sel s).wr = s.wr ∧ (writeStorageSel sel s).count = s.count ∧
    (writeStorageSel sel s).baseReload = s.baseReload ∧
    (writeStorageSel sel s).reloadReg = s.reloadReg ∧
    (writeStorageSel sel s).reloadActive = s.reloadActive ∧ (writeStorageSel sel s).tcnt = s.tcnt ∧
    (writeStorageSel sel s).tf = s.tf ∧ (writeStorageSel sel s).ie = s.ie ∧
    (writeStorageSel sel s).duty = s.duty ∧ (writeStorageSel sel s).rb = s.rb ∧
    (writeStorageSel sel s).openFile = s.openFile ∧ (writeStorageSel sel s).cur = s.cur ∧
    (writeStorageSel sel s).respValid = s.respValid ∧ (writeStorageSel sel s).host = s.host ∧
    (writeStorageSel sel s).timerScript = s.timerScript ∧
    (writeStorageSel sel s).openScript = s.openScript ∧
    (writeStorageSel sel s).readScript = s.readScript ∧ (writeStorageSel sel s).draws = s.draws := by
  and_intros <;> rfl

/-- The fields after `duty <- SILENCE`. -/
@[simp] theorem silenceOutput_fields (s : State) :
    (silenceOutput s).cfg = s.cfg ∧ (silenceOutput s).files = s.files ∧
    (silenceOutput s).arg0 = s.arg0 ∧ (silenceOutput s).arg1 = s.arg1 ∧
    (silenceOutput s).arg2 = s.arg2 ∧ (silenceOutput s).arg3 = s.arg3 ∧
    (silenceOutput s).respStatus = s.respStatus ∧ (silenceOutput s).respValue = s.respValue ∧
    (silenceOutput s).busy = s.busy ∧ (silenceOutput s).seq = s.seq ∧
    (silenceOutput s).pstate = s.pstate ∧ (silenceOutput s).loopFlag = s.loopFlag ∧
    (silenceOutput s).nameReg = s.nameReg ∧ (silenceOutput s).nameValid = s.nameValid ∧
    (silenceOutput s).volume = s.volume ∧ (silenceOutput s).rateQ = s.rateQ ∧
    (silenceOutput s).storageSel = s.storageSel ∧ (silenceOutput s).streamActive = s.streamActive ∧
    (silenceOutput s).dataStart = s.dataStart ∧ (silenceOutput s).dataSize = s.dataSize ∧
    (silenceOutput s).dataPos = s.dataPos ∧ (silenceOutput s).sampleRate = s.sampleRate ∧
    (silenceOutput s).eod = s.eod ∧ (silenceOutput s).rd = s.rd ∧ (silenceOutput s).wr = s.wr ∧
    (silenceOutput s).count = s.count ∧ (silenceOutput s).baseReload = s.baseReload ∧
    (silenceOutput s).reloadReg = s.reloadReg ∧ (silenceOutput s).reloadActive = s.reloadActive ∧
    (silenceOutput s).tcnt = s.tcnt ∧ (silenceOutput s).tf = s.tf ∧ (silenceOutput s).ie = s.ie ∧
    (silenceOutput s).duty = Config.silence ∧ (silenceOutput s).rb = s.rb ∧
    (silenceOutput s).openFile = s.openFile ∧ (silenceOutput s).cur = s.cur ∧
    (silenceOutput s).respValid = s.respValid ∧ (silenceOutput s).host = s.host ∧
    (silenceOutput s).timerScript = s.timerScript ∧ (silenceOutput s).openScript = s.openScript ∧
    (silenceOutput s).readScript = s.readScript ∧ (silenceOutput s).draws = s.draws := by
  and_intros <;> rfl

/-- The fields after the write of `nameReg`. -/
@[simp] theorem writeName_fields (name : Name) (s : State) :
    (writeName name s).cfg = s.cfg ∧ (writeName name s).files = s.files ∧
    (writeName name s).arg0 = s.arg0 ∧ (writeName name s).arg1 = s.arg1 ∧
    (writeName name s).arg2 = s.arg2 ∧ (writeName name s).arg3 = s.arg3 ∧
    (writeName name s).respStatus = s.respStatus ∧ (writeName name s).respValue = s.respValue ∧
    (writeName name s).busy = s.busy ∧ (writeName name s).seq = s.seq ∧
    (writeName name s).pstate = s.pstate ∧ (writeName name s).loopFlag = s.loopFlag ∧
    (writeName name s).nameReg = name ∧ (writeName name s).nameValid = s.nameValid ∧
    (writeName name s).volume = s.volume ∧ (writeName name s).rateQ = s.rateQ ∧
    (writeName name s).storageSel = s.storageSel ∧ (writeName name s).streamActive = s.streamActive ∧
    (writeName name s).dataStart = s.dataStart ∧ (writeName name s).dataSize = s.dataSize ∧
    (writeName name s).dataPos = s.dataPos ∧ (writeName name s).sampleRate = s.sampleRate ∧
    (writeName name s).eod = s.eod ∧ (writeName name s).rd = s.rd ∧ (writeName name s).wr = s.wr ∧
    (writeName name s).count = s.count ∧ (writeName name s).baseReload = s.baseReload ∧
    (writeName name s).reloadReg = s.reloadReg ∧ (writeName name s).reloadActive = s.reloadActive ∧
    (writeName name s).tcnt = s.tcnt ∧ (writeName name s).tf = s.tf ∧ (writeName name s).ie = s.ie ∧
    (writeName name s).duty = s.duty ∧ (writeName name s).rb = s.rb ∧
    (writeName name s).openFile = s.openFile ∧ (writeName name s).cur = s.cur ∧
    (writeName name s).respValid = s.respValid ∧ (writeName name s).host = s.host ∧
    (writeName name s).timerScript = s.timerScript ∧ (writeName name s).openScript = s.openScript ∧
    (writeName name s).readScript = s.readScript ∧ (writeName name s).draws = s.draws := by
  and_intros <;> rfl

/-- The fields after `nameValid <- 1`. -/
@[simp] theorem markNameValid_fields (s : State) :
    (markNameValid s).cfg = s.cfg ∧ (markNameValid s).files = s.files ∧
    (markNameValid s).arg0 = s.arg0 ∧ (markNameValid s).arg1 = s.arg1 ∧
    (markNameValid s).arg2 = s.arg2 ∧ (markNameValid s).arg3 = s.arg3 ∧
    (markNameValid s).respStatus = s.respStatus ∧ (markNameValid s).respValue = s.respValue ∧
    (markNameValid s).busy = s.busy ∧ (markNameValid s).seq = s.seq ∧
    (markNameValid s).pstate = s.pstate ∧ (markNameValid s).loopFlag = s.loopFlag ∧
    (markNameValid s).nameReg = s.nameReg ∧ (markNameValid s).nameValid = true ∧
    (markNameValid s).volume = s.volume ∧ (markNameValid s).rateQ = s.rateQ ∧
    (markNameValid s).storageSel = s.storageSel ∧ (markNameValid s).streamActive = s.streamActive ∧
    (markNameValid s).dataStart = s.dataStart ∧ (markNameValid s).dataSize = s.dataSize ∧
    (markNameValid s).dataPos = s.dataPos ∧ (markNameValid s).sampleRate = s.sampleRate ∧
    (markNameValid s).eod = s.eod ∧ (markNameValid s).rd = s.rd ∧ (markNameValid s).wr = s.wr ∧
    (markNameValid s).count = s.count ∧ (markNameValid s).baseReload = s.baseReload ∧
    (markNameValid s).reloadReg = s.reloadReg ∧ (markNameValid s).reloadActive = s.reloadActive ∧
    (markNameValid s).tcnt = s.tcnt ∧ (markNameValid s).tf = s.tf ∧ (markNameValid s).ie = s.ie ∧
    (markNameValid s).duty = s.duty ∧ (markNameValid s).rb = s.rb ∧
    (markNameValid s).openFile = s.openFile ∧ (markNameValid s).cur = s.cur ∧
    (markNameValid s).respValid = s.respValid ∧ (markNameValid s).host = s.host ∧
    (markNameValid s).timerScript = s.timerScript ∧ (markNameValid s).openScript = s.openScript ∧
    (markNameValid s).readScript = s.readScript ∧ (markNameValid s).draws = s.draws := by
  and_intros <;> rfl

/-- The fields after `pstate <- Paused`. -/
@[simp] theorem markPaused_fields (s : State) :
    (markPaused s).cfg = s.cfg ∧ (markPaused s).files = s.files ∧ (markPaused s).arg0 = s.arg0 ∧
    (markPaused s).arg1 = s.arg1 ∧ (markPaused s).arg2 = s.arg2 ∧ (markPaused s).arg3 = s.arg3 ∧
    (markPaused s).respStatus = s.respStatus ∧ (markPaused s).respValue = s.respValue ∧
    (markPaused s).busy = s.busy ∧ (markPaused s).seq = s.seq ∧ (markPaused s).pstate = .paused ∧
    (markPaused s).loopFlag = s.loopFlag ∧ (markPaused s).nameReg = s.nameReg ∧
    (markPaused s).nameValid = s.nameValid ∧ (markPaused s).volume = s.volume ∧
    (markPaused s).rateQ = s.rateQ ∧ (markPaused s).storageSel = s.storageSel ∧
    (markPaused s).streamActive = s.streamActive ∧ (markPaused s).dataStart = s.dataStart ∧
    (markPaused s).dataSize = s.dataSize ∧ (markPaused s).dataPos = s.dataPos ∧
    (markPaused s).sampleRate = s.sampleRate ∧ (markPaused s).eod = s.eod ∧ (markPaused s).rd = s.rd ∧
    (markPaused s).wr = s.wr ∧ (markPaused s).count = s.count ∧
    (markPaused s).baseReload = s.baseReload ∧ (markPaused s).reloadReg = s.reloadReg ∧
    (markPaused s).reloadActive = s.reloadActive ∧ (markPaused s).tcnt = s.tcnt ∧
    (markPaused s).tf = s.tf ∧ (markPaused s).ie = s.ie ∧ (markPaused s).duty = s.duty ∧
    (markPaused s).rb = s.rb ∧ (markPaused s).openFile = s.openFile ∧ (markPaused s).cur = s.cur ∧
    (markPaused s).respValid = s.respValid ∧ (markPaused s).host = s.host ∧
    (markPaused s).timerScript = s.timerScript ∧ (markPaused s).openScript = s.openScript ∧
    (markPaused s).readScript = s.readScript ∧ (markPaused s).draws = s.draws := by
  and_intros <;> rfl

/-- The fields after `pstate <- Playing`. -/
@[simp] theorem markPlaying_fields (s : State) :
    (markPlaying s).cfg = s.cfg ∧ (markPlaying s).files = s.files ∧ (markPlaying s).arg0 = s.arg0 ∧
    (markPlaying s).arg1 = s.arg1 ∧ (markPlaying s).arg2 = s.arg2 ∧ (markPlaying s).arg3 = s.arg3 ∧
    (markPlaying s).respStatus = s.respStatus ∧ (markPlaying s).respValue = s.respValue ∧
    (markPlaying s).busy = s.busy ∧ (markPlaying s).seq = s.seq ∧ (markPlaying s).pstate = .playing ∧
    (markPlaying s).loopFlag = s.loopFlag ∧ (markPlaying s).nameReg = s.nameReg ∧
    (markPlaying s).nameValid = s.nameValid ∧ (markPlaying s).volume = s.volume ∧
    (markPlaying s).rateQ = s.rateQ ∧ (markPlaying s).storageSel = s.storageSel ∧
    (markPlaying s).streamActive = s.streamActive ∧ (markPlaying s).dataStart = s.dataStart ∧
    (markPlaying s).dataSize = s.dataSize ∧ (markPlaying s).dataPos = s.dataPos ∧
    (markPlaying s).sampleRate = s.sampleRate ∧ (markPlaying s).eod = s.eod ∧
    (markPlaying s).rd = s.rd ∧ (markPlaying s).wr = s.wr ∧ (markPlaying s).count = s.count ∧
    (markPlaying s).baseReload = s.baseReload ∧ (markPlaying s).reloadReg = s.reloadReg ∧
    (markPlaying s).reloadActive = s.reloadActive ∧ (markPlaying s).tcnt = s.tcnt ∧
    (markPlaying s).tf = s.tf ∧ (markPlaying s).ie = s.ie ∧ (markPlaying s).duty = s.duty ∧
    (markPlaying s).rb = s.rb ∧ (markPlaying s).openFile = s.openFile ∧ (markPlaying s).cur = s.cur ∧
    (markPlaying s).respValid = s.respValid ∧ (markPlaying s).host = s.host ∧
    (markPlaying s).timerScript = s.timerScript ∧ (markPlaying s).openScript = s.openScript ∧
    (markPlaying s).readScript = s.readScript ∧ (markPlaying s).draws = s.draws := by
  and_intros <;> rfl

/-- The fields after the write of `loopFlag`. -/
@[simp] theorem writeLoopFlag_fields (b : Bool) (s : State) :
    (writeLoopFlag b s).cfg = s.cfg ∧ (writeLoopFlag b s).files = s.files ∧
    (writeLoopFlag b s).arg0 = s.arg0 ∧ (writeLoopFlag b s).arg1 = s.arg1 ∧
    (writeLoopFlag b s).arg2 = s.arg2 ∧ (writeLoopFlag b s).arg3 = s.arg3 ∧
    (writeLoopFlag b s).respStatus = s.respStatus ∧ (writeLoopFlag b s).respValue = s.respValue ∧
    (writeLoopFlag b s).busy = s.busy ∧ (writeLoopFlag b s).seq = s.seq ∧
    (writeLoopFlag b s).pstate = s.pstate ∧ (writeLoopFlag b s).loopFlag = b ∧
    (writeLoopFlag b s).nameReg = s.nameReg ∧ (writeLoopFlag b s).nameValid = s.nameValid ∧
    (writeLoopFlag b s).volume = s.volume ∧ (writeLoopFlag b s).rateQ = s.rateQ ∧
    (writeLoopFlag b s).storageSel = s.storageSel ∧ (writeLoopFlag b s).streamActive = s.streamActive ∧
    (writeLoopFlag b s).dataStart = s.dataStart ∧ (writeLoopFlag b s).dataSize = s.dataSize ∧
    (writeLoopFlag b s).dataPos = s.dataPos ∧ (writeLoopFlag b s).sampleRate = s.sampleRate ∧
    (writeLoopFlag b s).eod = s.eod ∧ (writeLoopFlag b s).rd = s.rd ∧ (writeLoopFlag b s).wr = s.wr ∧
    (writeLoopFlag b s).count = s.count ∧ (writeLoopFlag b s).baseReload = s.baseReload ∧
    (writeLoopFlag b s).reloadReg = s.reloadReg ∧ (writeLoopFlag b s).reloadActive = s.reloadActive ∧
    (writeLoopFlag b s).tcnt = s.tcnt ∧ (writeLoopFlag b s).tf = s.tf ∧ (writeLoopFlag b s).ie = s.ie ∧
    (writeLoopFlag b s).duty = s.duty ∧ (writeLoopFlag b s).rb = s.rb ∧
    (writeLoopFlag b s).openFile = s.openFile ∧ (writeLoopFlag b s).cur = s.cur ∧
    (writeLoopFlag b s).respValid = s.respValid ∧ (writeLoopFlag b s).host = s.host ∧
    (writeLoopFlag b s).timerScript = s.timerScript ∧ (writeLoopFlag b s).openScript = s.openScript ∧
    (writeLoopFlag b s).readScript = s.readScript ∧ (writeLoopFlag b s).draws = s.draws := by
  and_intros <;> rfl

/-- The fields after the write of `volume`. -/
@[simp] theorem writeVolume_fields (v : BitVec 8) (s : State) :
    (writeVolume v s).cfg = s.cfg ∧ (writeVolume v s).files = s.files ∧
    (writeVolume v s).arg0 = s.arg0 ∧ (writeVolume v s).arg1 = s.arg1 ∧
    (writeVolume v s).arg2 = s.arg2 ∧ (writeVolume v s).arg3 = s.arg3 ∧
    (writeVolume v s).respStatus = s.respStatus ∧ (writeVolume v s).respValue = s.respValue ∧
    (writeVolume v s).busy = s.busy ∧ (writeVolume v s).seq = s.seq ∧
    (writeVolume v s).pstate = s.pstate ∧ (writeVolume v s).loopFlag = s.loopFlag ∧
    (writeVolume v s).nameReg = s.nameReg ∧ (writeVolume v s).nameValid = s.nameValid ∧
    (writeVolume v s).volume = BitVec.ofNat 4 (min v.toNat Config.volMax) ∧
    (writeVolume v s).rateQ = s.rateQ ∧ (writeVolume v s).storageSel = s.storageSel ∧
    (writeVolume v s).streamActive = s.streamActive ∧ (writeVolume v s).dataStart = s.dataStart ∧
    (writeVolume v s).dataSize = s.dataSize ∧ (writeVolume v s).dataPos = s.dataPos ∧
    (writeVolume v s).sampleRate = s.sampleRate ∧ (writeVolume v s).eod = s.eod ∧
    (writeVolume v s).rd = s.rd ∧ (writeVolume v s).wr = s.wr ∧ (writeVolume v s).count = s.count ∧
    (writeVolume v s).baseReload = s.baseReload ∧ (writeVolume v s).reloadReg = s.reloadReg ∧
    (writeVolume v s).reloadActive = s.reloadActive ∧ (writeVolume v s).tcnt = s.tcnt ∧
    (writeVolume v s).tf = s.tf ∧ (writeVolume v s).ie = s.ie ∧ (writeVolume v s).duty = s.duty ∧
    (writeVolume v s).rb = s.rb ∧ (writeVolume v s).openFile = s.openFile ∧
    (writeVolume v s).cur = s.cur ∧ (writeVolume v s).respValid = s.respValid ∧
    (writeVolume v s).host = s.host ∧ (writeVolume v s).timerScript = s.timerScript ∧
    (writeVolume v s).openScript = s.openScript ∧ (writeVolume v s).readScript = s.readScript ∧
    (writeVolume v s).draws = s.draws := by
  and_intros <;> rfl

/-- Which staging register SET_ARG writes (R186). -/
theorem writeArg_cases (idx : BitVec 2) (v : BitVec 24) (s : State) :
    writeArg idx v s =
      { s with arg0 := if idx = 0 then v else s.arg0, arg1 := if idx = 1 then v else s.arg1,
               arg2 := if idx = 2 then v else s.arg2, arg3 := if idx = 3 then v else s.arg3 } := by
  have h : idx = 0 ∨ idx = 1 ∨ idx = 2 ∨ idx = 3 := by
    revert idx; decide
  rcases h with rfl | rfl | rfl | rfl <;> rfl

end Machine

end Sys2Proof
end

