-- ==== Sys2Proof/Laws/Ops.lean ====
section
/-! SUPPORT. What each shared operation can change, said once: the fields it leaves alone, and the cases of
its result. -/

namespace Sys2Proof

namespace Machine

/-- TIMER_STEP writes only the timer's count, active reload and pending flag (R310). -/
@[simp] theorem timerStep_fields (s : State) :
    (timerStep s).cfg = s.cfg ∧ (timerStep s).files = s.files ∧ (timerStep s).arg0 = s.arg0 ∧
    (timerStep s).arg1 = s.arg1 ∧ (timerStep s).arg2 = s.arg2 ∧ (timerStep s).arg3 = s.arg3 ∧
    (timerStep s).respStatus = s.respStatus ∧ (timerStep s).respValue = s.respValue ∧
    (timerStep s).busy = s.busy ∧ (timerStep s).seq = s.seq ∧ (timerStep s).pstate = s.pstate ∧
    (timerStep s).loopFlag = s.loopFlag ∧ (timerStep s).nameReg = s.nameReg ∧
    (timerStep s).nameValid = s.nameValid ∧ (timerStep s).volume = s.volume ∧
    (timerStep s).rateQ = s.rateQ ∧ (timerStep s).storageSel = s.storageSel ∧
    (timerStep s).streamActive = s.streamActive ∧ (timerStep s).dataStart = s.dataStart ∧
    (timerStep s).dataSize = s.dataSize ∧ (timerStep s).dataPos = s.dataPos ∧
    (timerStep s).sampleRate = s.sampleRate ∧ (timerStep s).eod = s.eod ∧ (timerStep s).rd = s.rd ∧
    (timerStep s).wr = s.wr ∧ (timerStep s).count = s.count ∧ (timerStep s).baseReload = s.baseReload ∧
    (timerStep s).reloadReg = s.reloadReg ∧ (timerStep s).ie = s.ie ∧ (timerStep s).duty = s.duty ∧
    (timerStep s).rb = s.rb ∧ (timerStep s).openFile = s.openFile ∧ (timerStep s).cur = s.cur ∧
    (timerStep s).respValid = s.respValid ∧ (timerStep s).host = s.host ∧
    (timerStep s).timerScript = s.timerScript ∧ (timerStep s).openScript = s.openScript ∧
    (timerStep s).readScript = s.readScript ∧ (timerStep s).draws = s.draws := by
  unfold timerStep; split <;> and_intros <;> rfl

/-- POP writes only `rd` and `count` (R134). -/
@[simp] theorem pop_fields (s : State) :
    ((pop s).2).cfg = s.cfg ∧ ((pop s).2).files = s.files ∧ ((pop s).2).arg0 = s.arg0 ∧
    ((pop s).2).arg1 = s.arg1 ∧ ((pop s).2).arg2 = s.arg2 ∧ ((pop s).2).arg3 = s.arg3 ∧
    ((pop s).2).respStatus = s.respStatus ∧ ((pop s).2).respValue = s.respValue ∧
    ((pop s).2).busy = s.busy ∧ ((pop s).2).seq = s.seq ∧ ((pop s).2).pstate = s.pstate ∧
    ((pop s).2).loopFlag = s.loopFlag ∧ ((pop s).2).nameReg = s.nameReg ∧
    ((pop s).2).nameValid = s.nameValid ∧ ((pop s).2).volume = s.volume ∧ ((pop s).2).rateQ = s.rateQ ∧
    ((pop s).2).storageSel = s.storageSel ∧ ((pop s).2).streamActive = s.streamActive ∧
    ((pop s).2).dataStart = s.dataStart ∧ ((pop s).2).dataSize = s.dataSize ∧
    ((pop s).2).dataPos = s.dataPos ∧ ((pop s).2).sampleRate = s.sampleRate ∧ ((pop s).2).eod = s.eod ∧
    ((pop s).2).wr = s.wr ∧ ((pop s).2).baseReload = s.baseReload ∧
    ((pop s).2).reloadReg = s.reloadReg ∧ ((pop s).2).reloadActive = s.reloadActive ∧
    ((pop s).2).tcnt = s.tcnt ∧ ((pop s).2).tf = s.tf ∧ ((pop s).2).ie = s.ie ∧
    ((pop s).2).duty = s.duty ∧ ((pop s).2).rb = s.rb ∧ ((pop s).2).openFile = s.openFile ∧
    ((pop s).2).cur = s.cur ∧ ((pop s).2).respValid = s.respValid ∧ ((pop s).2).host = s.host ∧
    ((pop s).2).timerScript = s.timerScript ∧ ((pop s).2).openScript = s.openScript ∧
    ((pop s).2).readScript = s.readScript ∧ ((pop s).2).draws = s.draws := by
  unfold pop; split <;> and_intros <;> rfl

/-- TICK writes only `rd`, `count` and `duty` (R307, R309). -/
@[simp] theorem tick_fields (s : State) :
    (tick s).cfg = s.cfg ∧ (tick s).files = s.files ∧ (tick s).arg0 = s.arg0 ∧ (tick s).arg1 = s.arg1 ∧
    (tick s).arg2 = s.arg2 ∧ (tick s).arg3 = s.arg3 ∧ (tick s).respStatus = s.respStatus ∧
    (tick s).respValue = s.respValue ∧ (tick s).busy = s.busy ∧ (tick s).seq = s.seq ∧
    (tick s).pstate = s.pstate ∧ (tick s).loopFlag = s.loopFlag ∧ (tick s).nameReg = s.nameReg ∧
    (tick s).nameValid = s.nameValid ∧ (tick s).volume = s.volume ∧ (tick s).rateQ = s.rateQ ∧
    (tick s).storageSel = s.storageSel ∧ (tick s).streamActive = s.streamActive ∧
    (tick s).dataStart = s.dataStart ∧ (tick s).dataSize = s.dataSize ∧ (tick s).dataPos = s.dataPos ∧
    (tick s).sampleRate = s.sampleRate ∧ (tick s).eod = s.eod ∧ (tick s).wr = s.wr ∧
    (tick s).baseReload = s.baseReload ∧ (tick s).reloadReg = s.reloadReg ∧
    (tick s).reloadActive = s.reloadActive ∧ (tick s).tcnt = s.tcnt ∧ (tick s).tf = s.tf ∧
    (tick s).ie = s.ie ∧ (tick s).rb = s.rb ∧ (tick s).openFile = s.openFile ∧ (tick s).cur = s.cur ∧
    (tick s).respValid = s.respValid ∧ (tick s).host = s.host ∧ (tick s).timerScript = s.timerScript ∧
    (tick s).openScript = s.openScript ∧ (tick s).readScript = s.readScript ∧
    (tick s).draws = s.draws := by
  simp [tick]

/-- Interrupt entry writes only `rd`, `count`, `duty` and `TF` (R309). -/
@[simp] theorem interruptEntry_fields (s : State) :
    (interruptEntry s).cfg = s.cfg ∧ (interruptEntry s).files = s.files ∧
    (interruptEntry s).arg0 = s.arg0 ∧ (interruptEntry s).arg1 = s.arg1 ∧
    (interruptEntry s).arg2 = s.arg2 ∧ (interruptEntry s).arg3 = s.arg3 ∧
    (interruptEntry s).respStatus = s.respStatus ∧ (interruptEntry s).respValue = s.respValue ∧
    (interruptEntry s).busy = s.busy ∧ (interruptEntry s).seq = s.seq ∧
    (interruptEntry s).pstate = s.pstate ∧ (interruptEntry s).loopFlag = s.loopFlag ∧
    (interruptEntry s).nameReg = s.nameReg ∧ (interruptEntry s).nameValid = s.nameValid ∧
    (interruptEntry s).volume = s.volume ∧ (interruptEntry s).rateQ = s.rateQ ∧
    (interruptEntry s).storageSel = s.storageSel ∧ (interruptEntry s).streamActive = s.streamActive ∧
    (interruptEntry s).dataStart = s.dataStart ∧ (interruptEntry s).dataSize = s.dataSize ∧
    (interruptEntry s).dataPos = s.dataPos ∧ (interruptEntry s).sampleRate = s.sampleRate ∧
    (interruptEntry s).eod = s.eod ∧ (interruptEntry s).wr = s.wr ∧
    (interruptEntry s).baseReload = s.baseReload ∧ (interruptEntry s).reloadReg = s.reloadReg ∧
    (interruptEntry s).reloadActive = s.reloadActive ∧ (interruptEntry s).tcnt = s.tcnt ∧
    (interruptEntry s).ie = s.ie ∧ (interruptEntry s).rb = s.rb ∧
    (interruptEntry s).openFile = s.openFile ∧ (interruptEntry s).cur = s.cur ∧
    (interruptEntry s).respValid = s.respValid ∧ (interruptEntry s).host = s.host ∧
    (interruptEntry s).timerScript = s.timerScript ∧ (interruptEntry s).openScript = s.openScript ∧
    (interruptEntry s).readScript = s.readScript ∧ (interruptEntry s).draws = s.draws := by
  unfold interruptEntry; split <;> simp

/-- Timer steps with the interrupt open write only the sample clock's registers. -/
@[simp] theorem runTimer_fields (n : Nat) (s : State) :
    (runTimer n s).cfg = s.cfg ∧ (runTimer n s).files = s.files ∧ (runTimer n s).arg0 = s.arg0 ∧
    (runTimer n s).arg1 = s.arg1 ∧ (runTimer n s).arg2 = s.arg2 ∧ (runTimer n s).arg3 = s.arg3 ∧
    (runTimer n s).respStatus = s.respStatus ∧ (runTimer n s).respValue = s.respValue ∧
    (runTimer n s).busy = s.busy ∧ (runTimer n s).seq = s.seq ∧ (runTimer n s).pstate = s.pstate ∧
    (runTimer n s).loopFlag = s.loopFlag ∧ (runTimer n s).nameReg = s.nameReg ∧
    (runTimer n s).nameValid = s.nameValid ∧ (runTimer n s).volume = s.volume ∧
    (runTimer n s).rateQ = s.rateQ ∧ (runTimer n s).storageSel = s.storageSel ∧
    (runTimer n s).streamActive = s.streamActive ∧ (runTimer n s).dataStart = s.dataStart ∧
    (runTimer n s).dataSize = s.dataSize ∧ (runTimer n s).dataPos = s.dataPos ∧
    (runTimer n s).sampleRate = s.sampleRate ∧ (runTimer n s).eod = s.eod ∧ (runTimer n s).wr = s.wr ∧
    (runTimer n s).baseReload = s.baseReload ∧ (runTimer n s).reloadReg = s.reloadReg ∧
    (runTimer n s).ie = s.ie ∧ (runTimer n s).rb = s.rb ∧ (runTimer n s).openFile = s.openFile ∧
    (runTimer n s).cur = s.cur ∧ (runTimer n s).respValid = s.respValid ∧
    (runTimer n s).host = s.host ∧ (runTimer n s).timerScript = s.timerScript ∧
    (runTimer n s).openScript = s.openScript ∧ (runTimer n s).readScript = s.readScript ∧
    (runTimer n s).draws = s.draws := by
  induction n generalizing s with
  | zero => simp [runTimer]
  | succ n ih => simp [runTimer, ih]

/-- Timer steps with the interrupt held off write only the timer's registers (R73). -/
@[simp] theorem holdTimer_fields (n : Nat) (s : State) :
    (holdTimer n s).cfg = s.cfg ∧ (holdTimer n s).files = s.files ∧ (holdTimer n s).arg0 = s.arg0 ∧
    (holdTimer n s).arg1 = s.arg1 ∧ (holdTimer n s).arg2 = s.arg2 ∧ (holdTimer n s).arg3 = s.arg3 ∧
    (holdTimer n s).respStatus = s.respStatus ∧ (holdTimer n s).respValue = s.respValue ∧
    (holdTimer n s).busy = s.busy ∧ (holdTimer n s).seq = s.seq ∧ (holdTimer n s).pstate = s.pstate ∧
    (holdTimer n s).loopFlag = s.loopFlag ∧ (holdTimer n s).nameReg = s.nameReg ∧
    (holdTimer n s).nameValid = s.nameValid ∧ (holdTimer n s).volume = s.volume ∧
    (holdTimer n s).rateQ = s.rateQ ∧ (holdTimer n s).storageSel = s.storageSel ∧
    (holdTimer n s).streamActive = s.streamActive ∧ (holdTimer n s).dataStart = s.dataStart ∧
    (holdTimer n s).dataSize = s.dataSize ∧ (holdTimer n s).dataPos = s.dataPos ∧
    (holdTimer n s).sampleRate = s.sampleRate ∧ (holdTimer n s).eod = s.eod ∧
    (holdTimer n s).rd = s.rd ∧ (holdTimer n s).wr = s.wr ∧ (holdTimer n s).count = s.count ∧
    (holdTimer n s).baseReload = s.baseReload ∧ (holdTimer n s).reloadReg = s.reloadReg ∧
    (holdTimer n s).ie = s.ie ∧ (holdTimer n s).duty = s.duty ∧ (holdTimer n s).rb = s.rb ∧
    (holdTimer n s).openFile = s.openFile ∧ (holdTimer n s).cur = s.cur ∧
    (holdTimer n s).respValid = s.respValid ∧ (holdTimer n s).host = s.host ∧
    (holdTimer n s).timerScript = s.timerScript ∧ (holdTimer n s).openScript = s.openScript ∧
    (holdTimer n s).readScript = s.readScript ∧ (holdTimer n s).draws = s.draws := by
  induction n generalizing s with
  | zero => simp [holdTimer]
  | succ n ih => simp [holdTimer, ih]

/-- Drawing a number of timer steps changes only the script and the draw counter. -/
@[simp] theorem drawTimerSteps_fields (s : State) :
    ((drawTimerSteps s).2).cfg = s.cfg ∧ ((drawTimerSteps s).2).files = s.files ∧
    ((drawTimerSteps s).2).arg0 = s.arg0 ∧ ((drawTimerSteps s).2).arg1 = s.arg1 ∧
    ((drawTimerSteps s).2).arg2 = s.arg2 ∧ ((drawTimerSteps s).2).arg3 = s.arg3 ∧
    ((drawTimerSteps s).2).respStatus = s.respStatus ∧ ((drawTimerSteps s).2).respValue = s.respValue ∧
    ((drawTimerSteps s).2).busy = s.busy ∧ ((drawTimerSteps s).2).seq = s.seq ∧
    ((drawTimerSteps s).2).pstate = s.pstate ∧ ((drawTimerSteps s).2).loopFlag = s.loopFlag ∧
    ((drawTimerSteps s).2).nameReg = s.nameReg ∧ ((drawTimerSteps s).2).nameValid = s.nameValid ∧
    ((drawTimerSteps s).2).volume = s.volume ∧ ((drawTimerSteps s).2).rateQ = s.rateQ ∧
    ((drawTimerSteps s).2).storageSel = s.storageSel ∧
    ((drawTimerSteps s).2).streamActive = s.streamActive ∧
    ((drawTimerSteps s).2).dataStart = s.dataStart ∧ ((drawTimerSteps s).2).dataSize = s.dataSize ∧
    ((drawTimerSteps s).2).dataPos = s.dataPos ∧ ((drawTimerSteps s).2).sampleRate = s.sampleRate ∧
    ((drawTimerSteps s).2).eod = s.eod ∧ ((drawTimerSteps s).2).rd = s.rd ∧
    ((drawTimerSteps s).2).wr = s.wr ∧ ((drawTimerSteps s).2).count = s.count ∧
    ((drawTimerSteps s).2).baseReload = s.baseReload ∧ ((drawTimerSteps s).2).reloadReg = s.reloadReg ∧
    ((drawTimerSteps s).2).reloadActive = s.reloadActive ∧ ((drawTimerSteps s).2).tcnt = s.tcnt ∧
    ((drawTimerSteps s).2).tf = s.tf ∧ ((drawTimerSteps s).2).ie = s.ie ∧
    ((drawTimerSteps s).2).duty = s.duty ∧ ((drawTimerSteps s).2).rb = s.rb ∧
    ((drawTimerSteps s).2).openFile = s.openFile ∧ ((drawTimerSteps s).2).cur = s.cur ∧
    ((drawTimerSteps s).2).respValid = s.respValid ∧ ((drawTimerSteps s).2).host = s.host ∧
    ((drawTimerSteps s).2).openScript = s.openScript ∧
    ((drawTimerSteps s).2).readScript = s.readScript := by
  unfold drawTimerSteps; split <;> and_intros <;> rfl

/-- The time between two segments changes only the sample clock's registers (R309, R310). -/
@[simp] theorem gap_fields (s : State) :
    (gap s).cfg = s.cfg ∧ (gap s).files = s.files ∧ (gap s).arg0 = s.arg0 ∧ (gap s).arg1 = s.arg1 ∧
    (gap s).arg2 = s.arg2 ∧ (gap s).arg3 = s.arg3 ∧ (gap s).respStatus = s.respStatus ∧
    (gap s).respValue = s.respValue ∧ (gap s).busy = s.busy ∧ (gap s).seq = s.seq ∧
    (gap s).pstate = s.pstate ∧ (gap s).loopFlag = s.loopFlag ∧ (gap s).nameReg = s.nameReg ∧
    (gap s).nameValid = s.nameValid ∧ (gap s).volume = s.volume ∧ (gap s).rateQ = s.rateQ ∧
    (gap s).storageSel = s.storageSel ∧ (gap s).streamActive = s.streamActive ∧
    (gap s).dataStart = s.dataStart ∧ (gap s).dataSize = s.dataSize ∧ (gap s).dataPos = s.dataPos ∧
    (gap s).sampleRate = s.sampleRate ∧ (gap s).eod = s.eod ∧ (gap s).wr = s.wr ∧
    (gap s).baseReload = s.baseReload ∧ (gap s).reloadReg = s.reloadReg ∧ (gap s).ie = s.ie ∧
    (gap s).rb = s.rb ∧ (gap s).openFile = s.openFile ∧ (gap s).cur = s.cur ∧
    (gap s).respValid = s.respValid ∧ (gap s).host = s.host ∧ (gap s).openScript = s.openScript ∧
    (gap s).readScript = s.readScript := by
  simp [gap]

/-- The time inside a critical section changes only the timer's registers (R73). -/
@[simp] theorem hold_fields (s : State) :
    (hold s).cfg = s.cfg ∧ (hold s).files = s.files ∧ (hold s).arg0 = s.arg0 ∧ (hold s).arg1 = s.arg1 ∧
    (hold s).arg2 = s.arg2 ∧ (hold s).arg3 = s.arg3 ∧ (hold s).respStatus = s.respStatus ∧
    (hold s).respValue = s.respValue ∧ (hold s).busy = s.busy ∧ (hold s).seq = s.seq ∧
    (hold s).pstate = s.pstate ∧ (hold s).loopFlag = s.loopFlag ∧ (hold s).nameReg = s.nameReg ∧
    (hold s).nameValid = s.nameValid ∧ (hold s).volume = s.volume ∧ (hold s).rateQ = s.rateQ ∧
    (hold s).storageSel = s.storageSel ∧ (hold s).streamActive = s.streamActive ∧
    (hold s).dataStart = s.dataStart ∧ (hold s).dataSize = s.dataSize ∧ (hold s).dataPos = s.dataPos ∧
    (hold s).sampleRate = s.sampleRate ∧ (hold s).eod = s.eod ∧ (hold s).rd = s.rd ∧
    (hold s).wr = s.wr ∧ (hold s).count = s.count ∧ (hold s).baseReload = s.baseReload ∧
    (hold s).reloadReg = s.reloadReg ∧ (hold s).ie = s.ie ∧ (hold s).duty = s.duty ∧
    (hold s).rb = s.rb ∧ (hold s).openFile = s.openFile ∧ (hold s).cur = s.cur ∧
    (hold s).respValid = s.respValid ∧ (hold s).host = s.host ∧ (hold s).openScript = s.openScript ∧
    (hold s).readScript = s.readScript := by
  simp [hold]

/-- Time passing while the TPC is idle changes only the sample clock's registers. -/
@[simp] theorem passTime_fields (s : State) :
    (passTime s).cfg = s.cfg ∧ (passTime s).files = s.files ∧ (passTime s).arg0 = s.arg0 ∧
    (passTime s).arg1 = s.arg1 ∧ (passTime s).arg2 = s.arg2 ∧ (passTime s).arg3 = s.arg3 ∧
    (passTime s).respStatus = s.respStatus ∧ (passTime s).respValue = s.respValue ∧
    (passTime s).busy = s.busy ∧ (passTime s).seq = s.seq ∧ (passTime s).pstate = s.pstate ∧
    (passTime s).loopFlag = s.loopFlag ∧ (passTime s).nameReg = s.nameReg ∧
    (passTime s).nameValid = s.nameValid ∧ (passTime s).volume = s.volume ∧
    (passTime s).rateQ = s.rateQ ∧ (passTime s).storageSel = s.storageSel ∧
    (passTime s).streamActive = s.streamActive ∧ (passTime s).dataStart = s.dataStart ∧
    (passTime s).dataSize = s.dataSize ∧ (passTime s).dataPos = s.dataPos ∧
    (passTime s).sampleRate = s.sampleRate ∧ (passTime s).eod = s.eod ∧ (passTime s).wr = s.wr ∧
    (passTime s).baseReload = s.baseReload ∧ (passTime s).reloadReg = s.reloadReg ∧
    (passTime s).ie = s.ie ∧ (passTime s).rb = s.rb ∧ (passTime s).openFile = s.openFile ∧
    (passTime s).cur = s.cur ∧ (passTime s).respValid = false ∧ (passTime s).host = s.host ∧
    (passTime s).openScript = s.openScript ∧ (passTime s).readScript = s.readScript := by
  simp [passTime]

/-- A ring write changes only the ring storage (R70). -/
@[simp] theorem ringWrite_fields (i : Nat) (v : Byte) (s : State) :
    (ringWrite i v s).cfg = s.cfg ∧ (ringWrite i v s).files = s.files ∧
    (ringWrite i v s).arg0 = s.arg0 ∧ (ringWrite i v s).arg1 = s.arg1 ∧
    (ringWrite i v s).arg2 = s.arg2 ∧ (ringWrite i v s).arg3 = s.arg3 ∧
    (ringWrite i v s).respStatus = s.respStatus ∧ (ringWrite i v s).respValue = s.respValue ∧
    (ringWrite i v s).busy = s.busy ∧ (ringWrite i v s).seq = s.seq ∧
    (ringWrite i v s).pstate = s.pstate ∧ (ringWrite i v s).loopFlag = s.loopFlag ∧
    (ringWrite i v s).nameReg = s.nameReg ∧ (ringWrite i v s).nameValid = s.nameValid ∧
    (ringWrite i v s).volume = s.volume ∧ (ringWrite i v s).rateQ = s.rateQ ∧
    (ringWrite i v s).storageSel = s.storageSel ∧ (ringWrite i v s).streamActive = s.streamActive ∧
    (ringWrite i v s).dataStart = s.dataStart ∧ (ringWrite i v s).dataSize = s.dataSize ∧
    (ringWrite i v s).dataPos = s.dataPos ∧ (ringWrite i v s).sampleRate = s.sampleRate ∧
    (ringWrite i v s).eod = s.eod ∧ (ringWrite i v s).rd = s.rd ∧ (ringWrite i v s).wr = s.wr ∧
    (ringWrite i v s).count = s.count ∧ (ringWrite i v s).baseReload = s.baseReload ∧
    (ringWrite i v s).reloadReg = s.reloadReg ∧ (ringWrite i v s).reloadActive = s.reloadActive ∧
    (ringWrite i v s).tcnt = s.tcnt ∧ (ringWrite i v s).tf = s.tf ∧ (ringWrite i v s).ie = s.ie ∧
    (ringWrite i v s).duty = s.duty ∧ (ringWrite i v s).openFile = s.openFile ∧
    (ringWrite i v s).cur = s.cur ∧ (ringWrite i v s).respValid = s.respValid ∧
    (ringWrite i v s).host = s.host ∧ (ringWrite i v s).timerScript = s.timerScript ∧
    (ringWrite i v s).openScript = s.openScript ∧ (ringWrite i v s).readScript = s.readScript ∧
    (ringWrite i v s).draws = s.draws := by
  unfold ringWrite; split <;> and_intros <;> rfl

/-- PUSH writes only the ring storage, `wr` and `count` (R133). -/
@[simp] theorem push_fields (v : Byte) (s : State) :
    ((push v s).2).cfg = s.cfg ∧ ((push v s).2).files = s.files ∧ ((push v s).2).arg0 = s.arg0 ∧
    ((push v s).2).arg1 = s.arg1 ∧ ((push v s).2).arg2 = s.arg2 ∧ ((push v s).2).arg3 = s.arg3 ∧
    ((push v s).2).respStatus = s.respStatus ∧ ((push v s).2).respValue = s.respValue ∧
    ((push v s).2).busy = s.busy ∧ ((push v s).2).seq = s.seq ∧ ((push v s).2).pstate = s.pstate ∧
    ((push v s).2).loopFlag = s.loopFlag ∧ ((push v s).2).nameReg = s.nameReg ∧
    ((push v s).2).nameValid = s.nameValid ∧ ((push v s).2).volume = s.volume ∧
    ((push v s).2).rateQ = s.rateQ ∧ ((push v s).2).storageSel = s.storageSel ∧
    ((push v s).2).streamActive = s.streamActive ∧ ((push v s).2).dataStart = s.dataStart ∧
    ((push v s).2).dataSize = s.dataSize ∧ ((push v s).2).dataPos = s.dataPos ∧
    ((push v s).2).sampleRate = s.sampleRate ∧ ((push v s).2).eod = s.eod ∧ ((push v s).2).rd = s.rd ∧
    ((push v s).2).baseReload = s.baseReload ∧ ((push v s).2).reloadReg = s.reloadReg ∧
    ((push v s).2).reloadActive = s.reloadActive ∧ ((push v s).2).tcnt = s.tcnt ∧
    ((push v s).2).tf = s.tf ∧ ((push v s).2).ie = s.ie ∧ ((push v s).2).duty = s.duty ∧
    ((push v s).2).openFile = s.openFile ∧ ((push v s).2).cur = s.cur ∧
    ((push v s).2).respValid = s.respValid ∧ ((push v s).2).host = s.host ∧
    ((push v s).2).timerScript = s.timerScript ∧ ((push v s).2).openScript = s.openScript ∧
    ((push v s).2).readScript = s.readScript ∧ ((push v s).2).draws = s.draws := by
  unfold push; split <;> simp

/-- Pushing bytes writes only the ring storage, `wr` and `count` (R133). -/
@[simp] theorem pushAll_fields (bytes : List Byte) (s : State) :
    (pushAll bytes s).cfg = s.cfg ∧ (pushAll bytes s).files = s.files ∧
    (pushAll bytes s).arg0 = s.arg0 ∧ (pushAll bytes s).arg1 = s.arg1 ∧
    (pushAll bytes s).arg2 = s.arg2 ∧ (pushAll bytes s).arg3 = s.arg3 ∧
    (pushAll bytes s).respStatus = s.respStatus ∧ (pushAll bytes s).respValue = s.respValue ∧
    (pushAll bytes s).busy = s.busy ∧ (pushAll bytes s).seq = s.seq ∧
    (pushAll bytes s).pstate = s.pstate ∧ (pushAll bytes s).loopFlag = s.loopFlag ∧
    (pushAll bytes s).nameReg = s.nameReg ∧ (pushAll bytes s).nameValid = s.nameValid ∧
    (pushAll bytes s).volume = s.volume ∧ (pushAll bytes s).rateQ = s.rateQ ∧
    (pushAll bytes s).storageSel = s.storageSel ∧ (pushAll bytes s).streamActive = s.streamActive ∧
    (pushAll bytes s).dataStart = s.dataStart ∧ (pushAll bytes s).dataSize = s.dataSize ∧
    (pushAll bytes s).dataPos = s.dataPos ∧ (pushAll bytes s).sampleRate = s.sampleRate ∧
    (pushAll bytes s).eod = s.eod ∧ (pushAll bytes s).rd = s.rd ∧
    (pushAll bytes s).baseReload = s.baseReload ∧ (pushAll bytes s).reloadReg = s.reloadReg ∧
    (pushAll bytes s).reloadActive = s.reloadActive ∧ (pushAll bytes s).tcnt = s.tcnt ∧
    (pushAll bytes s).tf = s.tf ∧ (pushAll bytes s).ie = s.ie ∧ (pushAll bytes s).duty = s.duty ∧
    (pushAll bytes s).openFile = s.openFile ∧ (pushAll bytes s).cur = s.cur ∧
    (pushAll bytes s).respValid = s.respValid ∧ (pushAll bytes s).host = s.host ∧
    (pushAll bytes s).timerScript = s.timerScript ∧ (pushAll bytes s).openScript = s.openScript ∧
    (pushAll bytes s).readScript = s.readScript ∧ (pushAll bytes s).draws = s.draws := by
  induction bytes generalizing s with
  | nil => simp [pushAll]
  | cons b rest ih => simp [pushAll, ih]

/-- Drawing an open answer changes only its script and the draw counter. -/
@[simp] theorem drawOpenOk_fields (s : State) :
    ((drawOpenOk s).2).cfg = s.cfg ∧ ((drawOpenOk s).2).files = s.files ∧
    ((drawOpenOk s).2).arg0 = s.arg0 ∧ ((drawOpenOk s).2).arg1 = s.arg1 ∧
    ((drawOpenOk s).2).arg2 = s.arg2 ∧ ((drawOpenOk s).2).arg3 = s.arg3 ∧
    ((drawOpenOk s).2).respStatus = s.respStatus ∧ ((drawOpenOk s).2).respValue = s.respValue ∧
    ((drawOpenOk s).2).busy = s.busy ∧ ((drawOpenOk s).2).seq = s.seq ∧
    ((drawOpenOk s).2).pstate = s.pstate ∧ ((drawOpenOk s).2).loopFlag = s.loopFlag ∧
    ((drawOpenOk s).2).nameReg = s.nameReg ∧ ((drawOpenOk s).2).nameValid = s.nameValid ∧
    ((drawOpenOk s).2).volume = s.volume ∧ ((drawOpenOk s).2).rateQ = s.rateQ ∧
    ((drawOpenOk s).2).storageSel = s.storageSel ∧ ((drawOpenOk s).2).streamActive = s.streamActive ∧
    ((drawOpenOk s).2).dataStart = s.dataStart ∧ ((drawOpenOk s).2).dataSize = s.dataSize ∧
    ((drawOpenOk s).2).dataPos = s.dataPos ∧ ((drawOpenOk s).2).sampleRate = s.sampleRate ∧
    ((drawOpenOk s).2).eod = s.eod ∧ ((drawOpenOk s).2).rd = s.rd ∧ ((drawOpenOk s).2).wr = s.wr ∧
    ((drawOpenOk s).2).count = s.count ∧ ((drawOpenOk s).2).baseReload = s.baseReload ∧
    ((drawOpenOk s).2).reloadReg = s.reloadReg ∧ ((drawOpenOk s).2).reloadActive = s.reloadActive ∧
    ((drawOpenOk s).2).tcnt = s.tcnt ∧ ((drawOpenOk s).2).tf = s.tf ∧ ((drawOpenOk s).2).ie = s.ie ∧
    ((drawOpenOk s).2).duty = s.duty ∧ ((drawOpenOk s).2).rb = s.rb ∧
    ((drawOpenOk s).2).openFile = s.openFile ∧ ((drawOpenOk s).2).cur = s.cur ∧
    ((drawOpenOk s).2).respValid = s.respValid ∧ ((drawOpenOk s).2).host = s.host ∧
    ((drawOpenOk s).2).timerScript = s.timerScript ∧ ((drawOpenOk s).2).readScript = s.readScript := by
  unfold drawOpenOk; split <;> and_intros <;> rfl

/-- Drawing a read count changes only its script and the draw counter. -/
@[simp] theorem drawReadCount_fields (s : State) :
    ((drawReadCount s).2).cfg = s.cfg ∧ ((drawReadCount s).2).files = s.files ∧
    ((drawReadCount s).2).arg0 = s.arg0 ∧ ((drawReadCount s).2).arg1 = s.arg1 ∧
    ((drawReadCount s).2).arg2 = s.arg2 ∧ ((drawReadCount s).2).arg3 = s.arg3 ∧
    ((drawReadCount s).2).respStatus = s.respStatus ∧ ((drawReadCount s).2).respValue = s.respValue ∧
    ((drawReadCount s).2).busy = s.busy ∧ ((drawReadCount s).2).seq = s.seq ∧
    ((drawReadCount s).2).pstate = s.pstate ∧ ((drawReadCount s).2).loopFlag = s.loopFlag ∧
    ((drawReadCount s).2).nameReg = s.nameReg ∧ ((drawReadCount s).2).nameValid = s.nameValid ∧
    ((drawReadCount s).2).volume = s.volume ∧ ((drawReadCount s).2).rateQ = s.rateQ ∧
    ((drawReadCount s).2).storageSel = s.storageSel ∧
    ((drawReadCount s).2).streamActive = s.streamActive ∧
    ((drawReadCount s).2).dataStart = s.dataStart ∧ ((drawReadCount s).2).dataSize = s.dataSize ∧
    ((drawReadCount s).2).dataPos = s.dataPos ∧ ((drawReadCount s).2).sampleRate = s.sampleRate ∧
    ((drawReadCount s).2).eod = s.eod ∧ ((drawReadCount s).2).rd = s.rd ∧
    ((drawReadCount s).2).wr = s.wr ∧ ((drawReadCount s).2).count = s.count ∧
    ((drawReadCount s).2).baseReload = s.baseReload ∧ ((drawReadCount s).2).reloadReg = s.reloadReg ∧
    ((drawReadCount s).2).reloadActive = s.reloadActive ∧ ((drawReadCount s).2).tcnt = s.tcnt ∧
    ((drawReadCount s).2).tf = s.tf ∧ ((drawReadCount s).2).ie = s.ie ∧
    ((drawReadCount s).2).duty = s.duty ∧ ((drawReadCount s).2).rb = s.rb ∧
    ((drawReadCount s).2).openFile = s.openFile ∧ ((drawReadCount s).2).cur = s.cur ∧
    ((drawReadCount s).2).respValid = s.respValid ∧ ((drawReadCount s).2).host = s.host ∧
    ((drawReadCount s).2).timerScript = s.timerScript ∧
    ((drawReadCount s).2).openScript = s.openScript := by
  unfold drawReadCount; split <;> and_intros <;> rfl

/-- StOpen writes only the device's fields (R81). -/
@[simp] theorem stOpen_fields (name : Name) (s : State) :
    ((stOpen name s).2).cfg = s.cfg ∧ ((stOpen name s).2).files = s.files ∧
    ((stOpen name s).2).arg0 = s.arg0 ∧ ((stOpen name s).2).arg1 = s.arg1 ∧
    ((stOpen name s).2).arg2 = s.arg2 ∧ ((stOpen name s).2).arg3 = s.arg3 ∧
    ((stOpen name s).2).respStatus = s.respStatus ∧ ((stOpen name s).2).respValue = s.respValue ∧
    ((stOpen name s).2).busy = s.busy ∧ ((stOpen name s).2).seq = s.seq ∧
    ((stOpen name s).2).pstate = s.pstate ∧ ((stOpen name s).2).loopFlag = s.loopFlag ∧
    ((stOpen name s).2).nameReg = s.nameReg ∧ ((stOpen name s).2).nameValid = s.nameValid ∧
    ((stOpen name s).2).volume = s.volume ∧ ((stOpen name s).2).rateQ = s.rateQ ∧
    ((stOpen name s).2).storageSel = s.storageSel ∧ ((stOpen name s).2).streamActive = s.streamActive ∧
    ((stOpen name s).2).dataStart = s.dataStart ∧ ((stOpen name s).2).dataSize = s.dataSize ∧
    ((stOpen name s).2).dataPos = s.dataPos ∧ ((stOpen name s).2).sampleRate = s.sampleRate ∧
    ((stOpen name s).2).eod = s.eod ∧ ((stOpen name s).2).rd = s.rd ∧ ((stOpen name s).2).wr = s.wr ∧
    ((stOpen name s).2).count = s.count ∧ ((stOpen name s).2).baseReload = s.baseReload ∧
    ((stOpen name s).2).reloadReg = s.reloadReg ∧ ((stOpen name s).2).reloadActive = s.reloadActive ∧
    ((stOpen name s).2).tcnt = s.tcnt ∧ ((stOpen name s).2).tf = s.tf ∧ ((stOpen name s).2).ie = s.ie ∧
    ((stOpen name s).2).duty = s.duty ∧ ((stOpen name s).2).rb = s.rb ∧
    ((stOpen name s).2).respValid = s.respValid ∧ ((stOpen name s).2).host = s.host ∧
    ((stOpen name s).2).timerScript = s.timerScript ∧
    ((stOpen name s).2).readScript = s.readScript := by
  unfold stOpen; split
  · simp
  · dsimp only
    split <;> simp

/-- StRead writes only the device's cursor (R82). -/
@[simp] theorem stRead_fields (n : Nat) (s : State) :
    ((stRead n s).2).cfg = s.cfg ∧ ((stRead n s).2).files = s.files ∧ ((stRead n s).2).arg0 = s.arg0 ∧
    ((stRead n s).2).arg1 = s.arg1 ∧ ((stRead n s).2).arg2 = s.arg2 ∧ ((stRead n s).2).arg3 = s.arg3 ∧
    ((stRead n s).2).respStatus = s.respStatus ∧ ((stRead n s).2).respValue = s.respValue ∧
    ((stRead n s).2).busy = s.busy ∧ ((stRead n s).2).seq = s.seq ∧
    ((stRead n s).2).pstate = s.pstate ∧ ((stRead n s).2).loopFlag = s.loopFlag ∧
    ((stRead n s).2).nameReg = s.nameReg ∧ ((stRead n s).2).nameValid = s.nameValid ∧
    ((stRead n s).2).volume = s.volume ∧ ((stRead n s).2).rateQ = s.rateQ ∧
    ((stRead n s).2).storageSel = s.storageSel ∧ ((stRead n s).2).streamActive = s.streamActive ∧
    ((stRead n s).2).dataStart = s.dataStart ∧ ((stRead n s).2).dataSize = s.dataSize ∧
    ((stRead n s).2).dataPos = s.dataPos ∧ ((stRead n s).2).sampleRate = s.sampleRate ∧
    ((stRead n s).2).eod = s.eod ∧ ((stRead n s).2).rd = s.rd ∧ ((stRead n s).2).wr = s.wr ∧
    ((stRead n s).2).count = s.count ∧ ((stRead n s).2).baseReload = s.baseReload ∧
    ((stRead n s).2).reloadReg = s.reloadReg ∧ ((stRead n s).2).reloadActive = s.reloadActive ∧
    ((stRead n s).2).tcnt = s.tcnt ∧ ((stRead n s).2).tf = s.tf ∧ ((stRead n s).2).ie = s.ie ∧
    ((stRead n s).2).duty = s.duty ∧ ((stRead n s).2).rb = s.rb ∧
    ((stRead n s).2).openFile = s.openFile ∧ ((stRead n s).2).respValid = s.respValid ∧
    ((stRead n s).2).host = s.host ∧ ((stRead n s).2).timerScript = s.timerScript ∧
    ((stRead n s).2).openScript = s.openScript := by
  simp [stRead]

/-- Cursor interference writes only the device's cursor (R86). -/
@[simp] theorem hostMoveCursor_fields (pos : Word) (s : State) :
    (hostMoveCursor pos s).cfg = s.cfg ∧ (hostMoveCursor pos s).files = s.files ∧
    (hostMoveCursor pos s).arg0 = s.arg0 ∧ (hostMoveCursor pos s).arg1 = s.arg1 ∧
    (hostMoveCursor pos s).arg2 = s.arg2 ∧ (hostMoveCursor pos s).arg3 = s.arg3 ∧
    (hostMoveCursor pos s).respStatus = s.respStatus ∧ (hostMoveCursor pos s).respValue = s.respValue ∧
    (hostMoveCursor pos s).busy = s.busy ∧ (hostMoveCursor pos s).seq = s.seq ∧
    (hostMoveCursor pos s).pstate = s.pstate ∧ (hostMoveCursor pos s).loopFlag = s.loopFlag ∧
    (hostMoveCursor pos s).nameReg = s.nameReg ∧ (hostMoveCursor pos s).nameValid = s.nameValid ∧
    (hostMoveCursor pos s).volume = s.volume ∧ (hostMoveCursor pos s).rateQ = s.rateQ ∧
    (hostMoveCursor pos s).storageSel = s.storageSel ∧
    (hostMoveCursor pos s).streamActive = s.streamActive ∧
    (hostMoveCursor pos s).dataStart = s.dataStart ∧ (hostMoveCursor pos s).dataSize = s.dataSize ∧
    (hostMoveCursor pos s).dataPos = s.dataPos ∧ (hostMoveCursor pos s).sampleRate = s.sampleRate ∧
    (hostMoveCursor pos s).eod = s.eod ∧ (hostMoveCursor pos s).rd = s.rd ∧
    (hostMoveCursor pos s).wr = s.wr ∧ (hostMoveCursor pos s).count = s.count ∧
    (hostMoveCursor pos s).baseReload = s.baseReload ∧ (hostMoveCursor pos s).reloadReg = s.reloadReg ∧
    (hostMoveCursor pos s).reloadActive = s.reloadActive ∧ (hostMoveCursor pos s).tcnt = s.tcnt ∧
    (hostMoveCursor pos s).tf = s.tf ∧ (hostMoveCursor pos s).ie = s.ie ∧
    (hostMoveCursor pos s).duty = s.duty ∧ (hostMoveCursor pos s).rb = s.rb ∧
    (hostMoveCursor pos s).openFile = s.openFile ∧ (hostMoveCursor pos s).respValid = false ∧
    (hostMoveCursor pos s).host = s.host ∧ (hostMoveCursor pos s).timerScript = s.timerScript ∧
    (hostMoveCursor pos s).openScript = s.openScript ∧
    (hostMoveCursor pos s).readScript = s.readScript ∧ (hostMoveCursor pos s).draws = s.draws := by
  and_intros <;> rfl


/-- The two cases of PUSH (R133). -/
theorem push_cases (v : Byte) (s : State) :
    (s.count.toNat < s.cfg.bufCap ∧
      push v s = (true, { ringWrite s.wr.toNat v s with
        wr := ringNext s.cfg s.wr, count := BitVec.ofNat 17 (s.count.toNat + 1) })) ∨
    (s.cfg.bufCap ≤ s.count.toNat ∧ push v s = (false, s)) := by
  unfold push
  split
  · next h => exact .inl ⟨h, by simp⟩
  · next h => exact .inr ⟨by omega, rfl⟩

/-- The two cases of POP (R134). -/
theorem pop_cases (s : State) :
    (0 < s.count.toNat ∧
      pop s = (some (ringRead s s.rd.toNat),
        { s with rd := ringNext s.cfg s.rd, count := BitVec.ofNat 17 (s.count.toNat - 1) })) ∨
    (s.count.toNat = 0 ∧ pop s = (none, s)) := by
  unfold pop
  split
  · next h => exact .inl ⟨h, rfl⟩
  · next h => exact .inr ⟨by omega, rfl⟩

/-- Interrupt entry does nothing while the interrupt is not due (R306). -/
theorem interruptEntry_of_not_due {s : State} (h : interruptDue s = false) :
    interruptEntry s = s := by
  simp [interruptEntry, h]

/-- A due interrupt clears `TF` and runs TICK (R306). -/
theorem interruptEntry_of_due {s : State} (h : interruptDue s = true) :
    interruptEntry s = tick { s with tf := false } := by
  simp [interruptEntry, h]

/-- After an entry the interrupt is not due: `TF` is clear, or `IE` was 0 (R306). -/
theorem interruptDue_interruptEntry (s : State) : interruptDue (interruptEntry s) = false := by
  unfold interruptEntry
  split
  · simp [interruptDue]
  · next h => simpa using h

/-- While `IE = 0` no TICK runs (R306): `rd`, `count` and `duty` stay, however many timer steps pass. -/
theorem runTimer_noTick (n : Nat) (s : State) (h : s.ie = false) :
    (runTimer n s).rd = s.rd ∧ (runTimer n s).count = s.count ∧ (runTimer n s).duty = s.duty := by
  induction n generalizing s with
  | zero => simp [runTimer]
  | succ n ih =>
    have hd : interruptEntry (timerStep s) = timerStep s :=
      interruptEntry_of_not_due (by simp [interruptDue, h])
    simp only [runTimer, hd]
    simpa using ih (timerStep s) (by simpa using h)

/-- While `IE = 0` the time between two segments runs no TICK. -/
theorem gap_noTick (s : State) (h : s.ie = false) :
    (gap s).rd = s.rd ∧ (gap s).count = s.count ∧ (gap s).duty = s.duty := by
  have hd : interruptEntry (drawTimerSteps s).2 = (drawTimerSteps s).2 :=
    interruptEntry_of_not_due (by simp [interruptDue, h])
  simp only [gap, hd]
  simpa using runTimer_noTick (drawTimerSteps s).1 (drawTimerSteps s).2 (by simpa using h)

/-- Two timers that agree on the count and both reloads agree after a step (R310). -/
theorem timerStep_congr {s t : State} (hc : t.tcnt = s.tcnt) (ha : t.reloadActive = s.reloadActive)
    (hr : t.reloadReg = s.reloadReg) :
    (timerStep t).tcnt = (timerStep s).tcnt ∧
      (timerStep t).reloadActive = (timerStep s).reloadActive := by
  unfold timerStep
  rw [hc, ha]
  split <;> simp [hr]

/-- Interrupts never touch the timer (R309): open or held off, `n` steps leave the same count and reload. -/
theorem runTimer_timer (n : Nat) {s t : State} (hc : t.tcnt = s.tcnt)
    (ha : t.reloadActive = s.reloadActive) (hr : t.reloadReg = s.reloadReg) :
    (runTimer n t).tcnt = (holdTimer n s).tcnt ∧
      (runTimer n t).reloadActive = (holdTimer n s).reloadActive := by
  induction n generalizing s t with
  | zero => exact ⟨hc, ha⟩
  | succ n ih =>
    have h := timerStep_congr hc ha hr
    exact ih (by simpa using h.1) (by simpa using h.2) (by simpa using hr)

/-- `n` steps with the interrupt held off are `n` timer steps. -/
theorem holdTimer_eq (n : Nat) (s : State) : holdTimer n s = timerStep^[n] s := by
  induction n generalizing s with
  | zero => rfl
  | succ n ih => exact ih _

/-- No timer step is drawn where nothing happens. -/
theorem TimerStepsDrawn.refl (s : State) : TimerStepsDrawn 0 s s :=
  ⟨[], [], rfl, fun _ => rfl, .nil, by simp, rfl⟩

/-- One draw of a number of timer steps (log 5). -/
theorem timerStepsDrawn_draw (s : State) :
    TimerStepsDrawn (drawTimerSteps s).1 s (drawTimerSteps s).2 := by
  unfold drawTimerSteps
  cases h : s.timerScript with
  | nil => exact ⟨[], [s.draws], by simp [h], by simp, by simp, by simp, by simp⟩
  | cons n rest => exact ⟨[n], [], by simp [h], by simp, .nil, by simp, by simp⟩

/-- The timer steps drawn up to a state and from there on add up. -/
theorem TimerStepsDrawn.trans {m n : Nat} {s t u : State} (h : TimerStepsDrawn m s t)
    (k : TimerStepsDrawn n t u) (hst : s.draws ≤ t.draws) (htu : t.draws ≤ u.draws) :
    TimerStepsDrawn (m + n) s u := by
  obtain ⟨a, f, ha, hf, pf, bf, rfl⟩ := h
  obtain ⟨b, g, hb, hg, pg, bg, rfl⟩ := k
  refine ⟨a ++ b, f ++ g, by simp [ha, hb], fun hu => ?_, ?_, ?_, ?_⟩
  · simp [hg hu, hf (by simp [hb, hu])]
  · exact List.pairwise_append.mpr ⟨pf, pg, fun x hx y hy => (bf x hx).2.trans_le (bg y hy).1⟩
  · intro x hx
    rcases List.mem_append.mp hx with hx | hx
    · exact ⟨(bf x hx).1, (bf x hx).2.trans_le htu⟩
    · exact ⟨hst.trans (bg x hx).1, (bg x hx).2⟩
  · simp only [List.sum_append, List.map_append]
    omega

/-- The bytes StRead delivers: a prefix of what is left of the open file, no more than asked (R82). -/
theorem stRead_bytes (n : Nat) (s : State) :
    ∃ k, k ≤ n ∧ (stRead n s).1 = ((openBytes s).drop s.cur.toNat).take k ∧
      (stRead n s).2.cur = BitVec.ofNat 32 (s.cur.toNat + (stRead n s).1.length) :=
  ⟨min n (drawReadCount s).1, Nat.min_le_left .., rfl, rfl⟩

/-- The three cases of StOpen (R81). -/
theorem stOpen_cases (name : Name) (s : State) :
    (lookupFile s.files name = none ∧ stOpen name s = (false, s)) ∨
    ((lookupFile s.files name).isSome = true ∧
      ((drawOpenOk s).1 = false ∧ stOpen name s = (false, (drawOpenOk s).2) ∨
       (drawOpenOk s).1 = true ∧
        stOpen name s = (true, { (drawOpenOk s).2 with openFile := some name, cur := 0 }))) := by
  unfold stOpen
  split
  · next h => exact .inl ⟨h, rfl⟩
  · next b h =>
    refine .inr ⟨by simp [h], ?_⟩
    cases hd : (drawOpenOk s).1
    · exact .inl ⟨rfl, by simp [hd]⟩
    · exact .inr ⟨rfl, by simp [hd]⟩

/-- StRead delivers no more than asked (R82). -/
theorem stRead_length (n : Nat) (s : State) : (stRead n s).1.length ≤ n := by
  obtain ⟨k, hk, hb, -⟩ := stRead_bytes n s
  rw [hb]
  exact (List.length_take_le ..).trans hk

/-- The opened bytes depend only on the device's open file and the storage contents. -/
theorem openBytes_congr {s t : State} (hf : t.files = s.files) (ho : t.openFile = s.openFile) :
    openBytes t = openBytes s := by
  simp [openBytes, hf, ho]

/-! ### Segments -/

@[simp] theorem Code.run_ret {α : Type} (a : α) (s : State) : (Code.ret a).run s = (a, s) := rfl

@[simp] theorem Code.ret_bind {α β : Type} (a : α) (f : α → Code β) : (Code.ret a).bind f = f a := rfl

/-- One procedure after another runs the first, then the second from where the first ended (R111). -/
@[simp] theorem Code.run_bind {α β : Type} (c : Code α) (f : α → Code β) (s : State) :
    (c.bind f).run s = (f (c.run s).1).run (c.run s).2 := by
  induction c generalizing s with
  | ret a => rfl
  | seg effect next ih => exact ih _ _

@[simp] theorem Code.run_andThen {α β : Type} (c : Code α) (d : Code β) (s : State) :
    (c.andThen d).run s = d.run (c.run s).2 := Code.run_bind ..

@[simp] theorem Code.run_write (f : State → State) (s : State) :
    (Code.write f).run s = ((), advanceSeq .done (f (gap s))) := rfl

@[simp] theorem Code.run_atomic (f : State → State) (s : State) :
    (Code.atomic f).run s = ((), advanceSeq .done (hold (f (hold (gap s))))) := rfl

@[simp] theorem Code.run_assign (s : State) : Code.assign.run s = ((), advanceSeq .done (gap s)) := rfl

@[simp] theorem Code.run_ask (test : State → Bool) (s : State) :
    (Code.ask test).run s = (test (gap s), advanceSeq (.flag (test (gap s))) (gap s)) := rfl

@[simp] theorem Code.run_when (test : State → Bool) (f : State → State) (s : State) :
    (Code.when test f).run s = (test (gap s),
      advanceSeq (.flag (test (gap s))) (if test (gap s) then f (gap s) else gap s)) := rfl

@[simp] theorem Code.run_number (v : State → Nat) (s : State) :
    (Code.number v).run s = (v (gap s), advanceSeq (.number (v (gap s))) (gap s)) := rfl

@[simp] theorem Code.run_integer (x : Int) (s : State) :
    (Code.integer x).run s = (x, advanceSeq (.integer x) (gap s)) := rfl

@[simp] theorem Code.run_fraction (t : Int × Int) (s : State) :
    (Code.fraction t).run s = (t, advanceSeq (.fraction t.1 t.2) (gap s)) := rfl

@[simp] theorem Code.run_openFile (name : State → Name) (s : State) :
    (Code.openFile name).run s = ((stOpen (name (gap s)) (gap s)).1,
      advanceSeq (.flag (stOpen (name (gap s)) (gap s)).1) (stOpen (name (gap s)) (gap s)).2) := rfl

@[simp] theorem Code.run_read (n : Nat) (s : State) :
    (Code.read n).run s = ((stRead n (gap s)).1,
      advanceSeq (.bytes (stRead n (gap s)).1) (stRead n (gap s)).2) := rfl

@[simp] theorem Code.run_finish (st : Status) (v : State → Word) (s : State) :
    (Code.finish st v).run s =
      ((), advanceSeq .done (Machine.finish st (v (gap s)) (gap s))) := rfl

/-- After `finish` the sequencer stays idle (R25). -/
@[simp] theorem advanceSeq_finish (a : Answer) (st : Status) (v : Word) (s : State) :
    advanceSeq a (finish st v s) = finish st v s := rfl

/-- The sequencer's index moves on by one with each segment before `finish` (R25). -/
theorem index_advanceSeq (a : Answer) (s : State) (h : s.seq ≠ .idle) :
    (advanceSeq a s).seq.index = s.seq.index + 1 := by
  unfold advanceSeq
  cases hs : s.seq with
  | idle => exact absurd hs h
  | run w answers => simp [Seq.index]

/-- What is left after the answers of one segment more (R25). -/
theorem Code.after_append {α : Type} (c : Code α) (answers : List Answer) (a : Answer) :
    c.after (answers ++ [a]) = (c.after answers).after [a] := by
  induction answers generalizing c with
  | nil => cases c <;> rfl
  | cons b rest ih =>
    cases c with
    | ret v => rfl
    | seg effect next => exact ih _

/-- The whole of a command is the run of its segments (R111). -/
theorem exec_eq (i : Instr) (s : State) : exec i s = .next ((commandCode i).run s).2 := by
  cases i <;> rfl

/-- A property kept through two procedures, the one after the other. -/
theorem Code.keeps_bind {α β : Type} {I : State → Prop} {J : β → State → Prop} (c : Code α)
    (f : α → Code β) (s : State) :
    (c.bind f).Keeps I J s ↔ c.Keeps I (fun a t => (f a).Keeps I J t) s := by
  induction c generalizing s with
  | ret a => exact Iff.rfl
  | seg effect next ih => exact and_congr_right fun _ => ih _ _

/-- What is kept to the end holds of the whole run. -/
theorem Code.Keeps.of_run {α : Type} {I : State → Prop} {J : α → State → Prop} {c : Code α}
    {s : State} (h : c.Keeps I J s) : J (c.run s).1 (c.run s).2 := by
  induction c generalizing s with
  | ret a => exact h
  | seg effect next ih => exact ih _ h.2

/-- A weaker property is kept as well. -/
theorem Code.Keeps.mono {α : Type} {I I' : State → Prop} {J J' : α → State → Prop} {c : Code α}
    {s : State} (h : c.Keeps I J s) (hI : ∀ t, I t → I' t) (hJ : ∀ a t, J a t → J' a t) :
    c.Keeps I' J' s := by
  induction c generalizing s with
  | ret a => exact hJ _ _ h
  | seg effect next ih => exact ⟨hI _ h.1, ih _ h.2⟩

/-- The two cases of READ(n) (R151). -/
theorem readThen_cases (n : Nat) (next : List Byte → Code ParseResult) (s : State) :
    let r := (Code.read n).run s
    (r.1.length < n ∧ (readThen n next).run s = (.formatFail, r.2)) ∨
    (r.1.length = n ∧ (readThen n next).run s = (next r.1).run r.2) := by
  have hlen := stRead_length n (gap s)
  by_cases h : (stRead n (gap s)).1.length < n
  · exact .inl ⟨h, by simp [readThen, h]⟩
  · exact .inr ⟨by simp; omega, by simp [readThen, h]⟩

/-- The two cases of SKIP(n) (R151). -/
theorem skipThen_cases (n : Nat) (next : Code ParseResult) (s : State) :
    let r := (Code.number fun s => stTell s + n).run s
    (Config.offsetMax < r.1 ∧ (skipThen n next).run s =
      (.formatFail, advanceSeq (.flag false) (gap r.2))) ∨
    (r.1 ≤ Config.offsetMax ∧ (skipThen n next).run s =
      next.run (advanceSeq (.flag true) (stSeek r.1 (gap r.2)))) := by
  by_cases h : stTell (gap s) + n ≤ Config.offsetMax
  · exact .inr ⟨h, by simp [skipThen, h]⟩
  · exact .inl ⟨by simpa using h, by simp [skipThen, h]⟩

/-- What TEARDOWN leaves (R234). -/
@[simp] theorem teardown_fields (s : State) :
    ((teardown.run s).2).cfg = s.cfg ∧ ((teardown.run s).2).files = s.files ∧
    ((teardown.run s).2).arg0 = s.arg0 ∧ ((teardown.run s).2).arg1 = s.arg1 ∧
    ((teardown.run s).2).arg2 = s.arg2 ∧ ((teardown.run s).2).arg3 = s.arg3 ∧
    ((teardown.run s).2).respStatus = s.respStatus ∧ ((teardown.run s).2).respValue = s.respValue ∧
    ((teardown.run s).2).busy = s.busy ∧ ((teardown.run s).2).pstate = .stopped ∧
    ((teardown.run s).2).loopFlag = s.loopFlag ∧ ((teardown.run s).2).nameReg = s.nameReg ∧
    ((teardown.run s).2).nameValid = s.nameValid ∧ ((teardown.run s).2).volume = s.volume ∧
    ((teardown.run s).2).rateQ = s.rateQ ∧ ((teardown.run s).2).storageSel = s.storageSel ∧
    ((teardown.run s).2).streamActive = false ∧ ((teardown.run s).2).dataStart = s.dataStart ∧
    ((teardown.run s).2).dataSize = s.dataSize ∧ ((teardown.run s).2).dataPos = s.dataPos ∧
    ((teardown.run s).2).sampleRate = s.sampleRate ∧ ((teardown.run s).2).eod = s.eod ∧
    ((teardown.run s).2).wr = s.wr ∧ ((teardown.run s).2).baseReload = s.baseReload ∧
    ((teardown.run s).2).reloadReg = s.reloadReg ∧ ((teardown.run s).2).ie = false ∧
    ((teardown.run s).2).duty = Config.silence ∧ ((teardown.run s).2).rb = s.rb ∧
    ((teardown.run s).2).openFile = (if s.streamActive then none else s.openFile) ∧
    ((teardown.run s).2).cur = s.cur ∧ ((teardown.run s).2).respValid = s.respValid ∧
    ((teardown.run s).2).host = s.host ∧ ((teardown.run s).2).openScript = s.openScript ∧
    ((teardown.run s).2).readScript = s.readScript := by
  and_intros <;> simp [teardown] <;> split <;> simp_all

/-- What APPLY_RATE leaves (R182). -/
@[simp] theorem applyRate_fields (s : State) :
    ((applyRate.run s).2).cfg = s.cfg ∧ ((applyRate.run s).2).files = s.files ∧
    ((applyRate.run s).2).arg0 = s.arg0 ∧ ((applyRate.run s).2).arg1 = s.arg1 ∧
    ((applyRate.run s).2).arg2 = s.arg2 ∧ ((applyRate.run s).2).arg3 = s.arg3 ∧
    ((applyRate.run s).2).respStatus = s.respStatus ∧ ((applyRate.run s).2).respValue = s.respValue ∧
    ((applyRate.run s).2).busy = s.busy ∧ ((applyRate.run s).2).pstate = s.pstate ∧
    ((applyRate.run s).2).loopFlag = s.loopFlag ∧ ((applyRate.run s).2).nameReg = s.nameReg ∧
    ((applyRate.run s).2).nameValid = s.nameValid ∧ ((applyRate.run s).2).volume = s.volume ∧
    ((applyRate.run s).2).rateQ = s.rateQ ∧ ((applyRate.run s).2).storageSel = s.storageSel ∧
    ((applyRate.run s).2).streamActive = s.streamActive ∧
    ((applyRate.run s).2).dataStart = s.dataStart ∧ ((applyRate.run s).2).dataSize = s.dataSize ∧
    ((applyRate.run s).2).dataPos = s.dataPos ∧ ((applyRate.run s).2).sampleRate = s.sampleRate ∧
    ((applyRate.run s).2).eod = s.eod ∧ ((applyRate.run s).2).wr = s.wr ∧
    ((applyRate.run s).2).baseReload = s.baseReload ∧
    ((applyRate.run s).2).reloadReg = BitVec.ofNat 16 (reloadOfRate s.baseReload.toNat s.rateQ.toNat) ∧
    ((applyRate.run s).2).ie = s.ie ∧ ((applyRate.run s).2).rb = s.rb ∧
    ((applyRate.run s).2).openFile = s.openFile ∧ ((applyRate.run s).2).cur = s.cur ∧
    ((applyRate.run s).2).respValid = s.respValid ∧ ((applyRate.run s).2).host = s.host ∧
    ((applyRate.run s).2).openScript = s.openScript ∧
    ((applyRate.run s).2).readScript = s.readScript := by
  simp [applyRate, reloadOfRate]

end Machine

end Sys2Proof
end

