-- ==== Sys2Proof/Laws/PerInstr.lean ====
section
/-! SUPPORT. Statements made once per instruction. -/

namespace Sys2Proof

namespace Laws

/-- The word that `encode` gives an instruction is selected by that instruction's row of the opcode map
(R105). -/
def EncodeMatchesRow.Statement (i : Instr) : Prop :=
  ∃ r ∈ opcodeTable, r.mnemonic = i.mnemonic ∧ r.selects (encode i) = true

/-- Masking off an operand that lies inside the mask's complement leaves the opcode. -/
theorem EncodeMatchesRow.masked (op : BitVec 4) (v : BitVec 28) (mask value : Word)
    (hv : ∀ i, i < 28 → v.getLsbD i = true → mask.getLsbD i = false)
    (hop : value = (op ++ (0 : BitVec 28)) &&& mask) :
    commandWord op v &&& mask = value := by
  subst hop
  apply BitVec.eq_of_getLsbD_eq
  intro i hi
  simp only [commandWord, BitVec.getLsbD_and, BitVec.getLsbD_append]
  by_cases h : i < 28
  · have := hv i h
    cases hvi : v.getLsbD i <;> simp_all
  · simp [h]

/-- An operand of `n` bits lies below bit `n`; a mask that is clear there does not see it. -/
theorem EncodeMatchesRow.below {n : Nat} (x : BitVec n) (mask : Word)
    (hm : ∀ i, i < n → mask.getLsbD i = false) :
    ∀ i, i < 28 → (x.setWidth 28).getLsbD i = true → mask.getLsbD i = false := by
  intro i _ hx
  simp only [BitVec.getLsbD_setWidth, Bool.and_eq_true] at hx
  exact hm i (BitVec.lt_of_getLsbD hx.2)

theorem EncodeMatchesRow.nop : EncodeMatchesRow.Statement .nop := by
  simp only [EncodeMatchesRow.Statement]; decide

theorem EncodeMatchesRow.begin (sel : BitVec 8) : EncodeMatchesRow.Statement (.begin sel) :=
  ⟨⟨"BEGIN", 0xFFFFFF00, 0x10000000⟩, by decide, rfl, decide_eq_true
    (EncodeMatchesRow.masked 1 _ _ _ (EncodeMatchesRow.below sel 0xFFFFFF00 (by decide)) rfl)⟩

theorem EncodeMatchesRow.play (name : Name) : EncodeMatchesRow.Statement (.play name) :=
  ⟨⟨"PLAY", 0xFFFF0000, 0x20000000⟩, by decide, rfl, decide_eq_true
    (EncodeMatchesRow.masked 2 _ _ _ (EncodeMatchesRow.below name 0xFFFF0000 (by decide)) rfl)⟩

theorem EncodeMatchesRow.stop : EncodeMatchesRow.Statement .stop := by
  simp only [EncodeMatchesRow.Statement]; decide

theorem EncodeMatchesRow.pause (mute : Bool) : EncodeMatchesRow.Statement (.pause mute) := by
  cases mute <;> simp only [EncodeMatchesRow.Statement] <;> decide

theorem EncodeMatchesRow.resume : EncodeMatchesRow.Statement .resume := by
  simp only [EncodeMatchesRow.Statement]; decide

theorem EncodeMatchesRow.update : EncodeMatchesRow.Statement .update := by
  simp only [EncodeMatchesRow.Statement]; decide

theorem EncodeMatchesRow.setVolume (v : BitVec 8) : EncodeMatchesRow.Statement (.setVolume v) :=
  ⟨⟨"SET_VOLUME", 0xFFFFFF00, 0x70000000⟩, by decide, rfl, decide_eq_true
    (EncodeMatchesRow.masked 7 _ _ _ (EncodeMatchesRow.below v 0xFFFFFF00 (by decide)) rfl)⟩

theorem EncodeMatchesRow.setRate (q : RateCode) : EncodeMatchesRow.Statement (.setRate q) :=
  ⟨⟨"SET_RATE", 0xFF000000, 0x80000000⟩, by decide, rfl, decide_eq_true
    (EncodeMatchesRow.masked 8 _ _ _ (EncodeMatchesRow.below q 0xFF000000 (by decide)) rfl)⟩

theorem EncodeMatchesRow.setArg (idx : BitVec 2) (v : BitVec 24) :
    EncodeMatchesRow.Statement (.setArg idx v) :=
  ⟨⟨"SET_ARG", 0xFC000000, 0x90000000⟩, by decide, rfl, decide_eq_true
    (EncodeMatchesRow.masked 9 _ _ _ (EncodeMatchesRow.below (idx ++ v) 0xFC000000 (by decide)) rfl)⟩

theorem EncodeMatchesRow.setSpeedPulse (p : BitVec 16) :
    EncodeMatchesRow.Statement (.setSpeedPulse p) :=
  ⟨⟨"SET_SPEED_PULSE", 0xFFFF0000, 0xA0000000⟩, by decide, rfl, decide_eq_true
    (EncodeMatchesRow.masked 10 _ _ _ (EncodeMatchesRow.below p 0xFFFF0000 (by decide)) rfl)⟩

theorem EncodeMatchesRow.setLoop (b : Bool) : EncodeMatchesRow.Statement (.setLoop b) := by
  cases b <;> simp only [EncodeMatchesRow.Statement] <;> decide

theorem EncodeMatchesRow.isPlaying : EncodeMatchesRow.Statement .isPlaying := by
  simp only [EncodeMatchesRow.Statement]; decide

theorem EncodeMatchesRow.isPaused : EncodeMatchesRow.Statement .isPaused := by
  simp only [EncodeMatchesRow.Statement]; decide

theorem EncodeMatchesRow.getSampleRate : EncodeMatchesRow.Statement .getSampleRate := by
  simp only [EncodeMatchesRow.Statement]; decide

theorem EncodeMatchesRow.getBuffered : EncodeMatchesRow.Statement .getBuffered := by
  simp only [EncodeMatchesRow.Statement]; decide

theorem EncodeMatchesRow.getLoop : EncodeMatchesRow.Statement .getLoop := by
  simp only [EncodeMatchesRow.Statement]; decide

end Laws

end Sys2Proof
end

