-- ==== Sys2Proof/Laws/Stream.lean ====
section
/-! SUPPORT. What PARSE, REFILL, START and RESTART can change, said once: a state with the fields they may
write blanked out is the same before and after. -/

namespace Sys2Proof

namespace Machine

/-- The state with every field blanked out that a procedure of START may write, and those of the sample
clock and the sequencer. -/
def State.sansStream (s : State) : State :=
  { s with seq := .idle, pstate := .stopped, ie := false, streamActive := false, dataStart := 0,
           dataSize := 0, dataPos := 0, sampleRate := 0, eod := false, rd := 0, wr := 0, count := 0,
           baseReload := 0, reloadReg := 0, reloadActive := 0, tcnt := 0, tf := false, duty := 0,
           rb := [], openFile := none, cur := 0, timerScript := [], openScript := [],
           readScript := [], draws := 0 }

/-- The procedure writes no field outside `State.sansStream`'s blanks. -/
def Code.StreamOnly {α : Type} (c : Code α) : Prop :=
  ∀ s : State, (c.run s).2.sansStream = s.sansStream

@[simp] theorem sansStream_gap (s : State) : (gap s).sansStream = s.sansStream := by
  simp [State.sansStream]

@[simp] theorem sansStream_hold (s : State) : (hold s).sansStream = s.sansStream := by
  simp [State.sansStream]

@[simp] theorem sansStream_advanceSeq (a : Answer) (s : State) :
    (advanceSeq a s).sansStream = s.sansStream := by
  simp [State.sansStream]

@[simp] theorem sansStream_stRead (n : Nat) (s : State) :
    (stRead n s).2.sansStream = s.sansStream := by
  simp [State.sansStream]

@[simp] theorem sansStream_stOpen (name : Name) (s : State) :
    (stOpen name s).2.sansStream = s.sansStream := by
  simp [State.sansStream]

@[simp] theorem sansStream_stSeek (pos : Nat) (s : State) :
    (stSeek pos s).sansStream = s.sansStream := by
  simp [State.sansStream]

@[simp] theorem sansStream_stClose (s : State) : (stClose s).sansStream = s.sansStream := by
  simp [State.sansStream]

@[simp] theorem sansStream_pushAll (b : List Byte) (s : State) :
    (pushAll b s).sansStream = s.sansStream := by
  simp [State.sansStream]

@[simp] theorem sansStream_latchEndOfData (s : State) :
    (latchEndOfData s).sansStream = s.sansStream := by
  simp [State.sansStream]

@[simp] theorem sansStream_advancePos (k : Nat) (s : State) :
    (advancePos k s).sansStream = s.sansStream := by
  simp [State.sansStream]

@[simp] theorem sansStream_commitStream (start size rate : Word) (s : State) :
    (commitStream start size rate s).sansStream = s.sansStream := by
  simp [State.sansStream]

@[simp] theorem sansStream_writeBaseReload (s : State) :
    (writeBaseReload s).sansStream = s.sansStream := by
  simp [State.sansStream]

@[simp] theorem sansStream_clearPendingAndEnable (s : State) :
    (clearPendingAndEnable s).sansStream = s.sansStream := by
  simp [State.sansStream]

@[simp] theorem sansStream_applyRate (s : State) :
    (applyRate.run s).2.sansStream = s.sansStream := by
  simp [State.sansStream]

@[simp] theorem sansStream_teardown (s : State) :
    (teardown.run s).2.sansStream = s.sansStream := by
  simp [State.sansStream]

/-! ### Putting procedures together -/

theorem Code.StreamOnly.ret {α : Type} (a : α) : (Code.ret a).StreamOnly := fun _ => rfl

theorem Code.StreamOnly.bind {α β : Type} {c : Code α} {f : α → Code β} (hc : c.StreamOnly)
    (hf : ∀ a, (f a).StreamOnly) : (c.bind f).StreamOnly := fun s => by
  rw [Code.run_bind, hf, hc]

theorem Code.StreamOnly.andThen {α β : Type} {c : Code α} {d : Code β} (hc : c.StreamOnly)
    (hd : d.StreamOnly) : (c.andThen d).StreamOnly := hc.bind fun _ => hd

theorem Code.StreamOnly.write {f : State → State} (h : ∀ s, (f s).sansStream = s.sansStream) :
    (Code.write f).StreamOnly := fun s => by simp [h]

theorem Code.StreamOnly.atomic {f : State → State} (h : ∀ s, (f s).sansStream = s.sansStream) :
    (Code.atomic f).StreamOnly := fun s => by simp [h]

theorem Code.StreamOnly.assign : Code.assign.StreamOnly := fun s => by simp

theorem Code.StreamOnly.ask (test : State → Bool) : (Code.ask test).StreamOnly := fun s => by simp

theorem Code.StreamOnly.number (v : State → Nat) : (Code.number v).StreamOnly := fun s => by simp

theorem Code.StreamOnly.read (n : Nat) : (Code.read n).StreamOnly := fun s => by simp

theorem Code.StreamOnly.openFile (name : State → Name) : (Code.openFile name).StreamOnly :=
  fun s => by simp

theorem Code.StreamOnly.when {test : State → Bool} {f : State → State}
    (h : ∀ s, (f s).sansStream = s.sansStream) : (Code.when test f).StreamOnly := fun s => by
  rw [Code.run_when]
  split <;> simp [h]

/-! ### The procedures -/

/-- What READ(n) leaves alone (R151). -/
theorem readThen_streamOnly {n : Nat} {next : List Byte → Code ParseResult}
    (h : ∀ b, (next b).StreamOnly) : (readThen n next).StreamOnly := by
  refine .bind (.read n) fun b => ?_
  split
  · exact .ret _
  · exact h b

/-- What SKIP(n) leaves alone (R151). -/
theorem skipThen_streamOnly {n : Nat} {next : Code ParseResult} (h : next.StreamOnly) :
    (skipThen n next).StreamOnly := by
  refine .bind (.number _) fun p => .bind (.when fun s => by simp) fun ok => ?_
  split
  · exact h
  · exact .ret _

/-- What a fmt chunk's body leaves alone (R155). -/
theorem fmtBodyThen_streamOnly {sz : Nat} {next : FmtInfo → Code ParseResult}
    (h : ∀ f, (next f).StreamOnly) : (fmtBodyThen sz next).StreamOnly := by
  unfold fmtBodyThen
  repeat refine readThen_streamOnly fun _ => ?_
  exact skipThen_streamOnly (.andThen .assign (h _))

/-- What the scan of the chunks leaves alone (R154). -/
theorem parseLoop_streamOnly (fuel : Nat) (f : FmtInfo) : (parseLoop fuel f).StreamOnly := by
  induction fuel generalizing f with
  | zero => exact .ret _
  | succ fuel ih =>
    refine readThen_streamOnly fun id => readThen_streamOnly fun size => .bind (.ask _) fun isFmt => ?_
    split
    · refine .bind (.ask _) fun short => ?_
      split
      · exact .ret _
      · exact fmtBodyThen_streamOnly ih
    · refine .bind (.ask _) fun isData => ?_
      split
      · exact .bind (.number _) fun start => .bind (.ask _) fun playable => .ret _
      · exact skipThen_streamOnly (ih f)

/-- What PARSE leaves alone (R152). -/
theorem parse_streamOnly : parse.StreamOnly := by
  refine readThen_streamOnly fun riff => ?_
  split
  · refine readThen_streamOnly fun _ => readThen_streamOnly fun wave => ?_
    split
    · exact .andThen .assign <| .andThen .assign <| .andThen .assign <| .andThen .assign <|
        .andThen .assign <| parseLoop_streamOnly _ _
    · exact .ret _
  · exact .ret _

/-- What REFILL's loop leaves alone (R246). -/
theorem refillLoop_streamOnly (fuel : Nat) : (refillLoop fuel).StreamOnly := by
  induction fuel with
  | zero => exact .ret _
  | succ fuel ih =>
    refine .bind (.number _) fun c => .bind (.ask _) fun enough => ?_
    split
    · exact .ret _
    · refine .bind (.number _) fun n => .bind (.read n) fun b =>
        .andThen (.atomic fun s => by simp) <| .andThen (.write fun s => by simp) <|
        .bind (.when fun s => by simp) fun failed => ?_
      split
      · exact .ret _
      · exact ih

/-- What REFILL leaves alone (R246). -/
theorem refill_streamOnly : refill.StreamOnly := by
  refine .bind (.ask _) fun inactive => ?_
  split
  · exact .ret _
  · refine .bind (.number _) fun exp => .bind (.when fun s => by simp) fun beyond => ?_
    split
    · exact .ret _
    · exact .andThen (.when fun s => by simp) (refillLoop_streamOnly _)

/-- What priming leaves alone (R239). -/
theorem refillTimes_streamOnly (n : Nat) : (refillTimes n).StreamOnly := by
  induction n with
  | zero => exact .ret _
  | succ n ih => exact refill_streamOnly.andThen ih

/-- What the rest of START after the commit leaves alone (R239, R241). -/
theorem primeAndEnable_streamOnly : primeAndEnable.StreamOnly :=
  (refillTimes_streamOnly _).andThen <| .andThen (.write fun s => by simp) <|
    .andThen sansStream_applyRate (.atomic fun s => by simp)

/-- What START leaves alone after PARSE (R237, R238). -/
theorem startParsed_streamOnly (r : ParseResult) : (startParsed r).StreamOnly := by
  refine .andThen (.ask _) ?_
  cases r with
  | formatFail => exact .andThen (.write fun s => by simp) (.ret _)
  | ok start size rate =>
    exact .andThen .assign <| .andThen (.atomic fun s => by simp) <|
      primeAndEnable_streamOnly.andThen (.ret _)

/-- What START leaves alone (R233, R237, R242). -/
theorem startStream_streamOnly (name : State → Name) : (startStream name).StreamOnly := by
  refine .bind (.openFile name) fun opened => ?_
  split
  · exact parse_streamOnly.bind startParsed_streamOnly
  · exact .ret _

/-- What RESTART leaves alone (R252). -/
theorem restart_streamOnly : restart.StreamOnly :=
  .andThen sansStream_teardown (startStream_streamOnly _)

/-- A field outside the blanks keeps its value. -/
theorem Code.StreamOnly.field {α β : Type} {c : Code α} (h : c.StreamOnly) (s : State)
    (field : State → β) (hf : ∀ t : State, field t.sansStream = field t) :
    field (c.run s).2 = field s := by
  rw [← hf, h s, hf]

end Machine

end Sys2Proof
end

