-- ==== Sys2Proof/Tests/Slice0.lean ====
section
/-! SUPPORT. Tests. Expected words and results come from the spec's examples (R116) and test vectors
(95_test_vectors.md), or from the rule named. The second half shows, for each statement with hypotheses, a
concrete state that meets them. -/

-- Each theorem is checked before the next is read: a thread for each would exceed the checker's memory.
set_option Elab.async false

namespace Sys2Proof

namespace Tests

open Machine

/-! ### Decoding: one word for each row, written out from R102 and R105 -/

theorem test_decode_nop : decodeWord 0b0000_0000000000000000000000000000 = .ok .nop := by decide
theorem test_decode_begin : decodeWord 0b0001_00000000000000000000_10100101 = .ok (.begin 0xA5) := by
  decide
theorem test_decode_play : decodeWord 0b0010_000000000000_0000000000000001 = .ok (.play 1) := by decide
theorem test_decode_stop : decodeWord 0b0011_0000000000000000000000000000 = .ok .stop := by decide
theorem test_decode_pause : decodeWord 0b0100_000000000000000000000000000_1 = .ok (.pause true) := by
  decide
theorem test_decode_resume : decodeWord 0b0101_0000000000000000000000000000 = .ok .resume := by decide
theorem test_decode_update : decodeWord 0b0110_0000000000000000000000000000 = .ok .update := by decide
theorem test_decode_setVolume :
    decodeWord 0b0111_00000000000000000000_00000100 = .ok (.setVolume 4) := by decide
theorem test_decode_setRate :
    decodeWord 0b1000_0000_000000010000000000000000 = .ok (.setRate 65536) := by decide
theorem test_decode_setArg :
    decodeWord 0b1001_00_10_000000001000000000000000 = .ok (.setArg 2 0x8000) := by decide
theorem test_decode_setSpeedPulse :
    decodeWord 0b1010_000000000000_0000010111011100 = .ok (.setSpeedPulse 1500) := by decide
theorem test_decode_setLoop : decodeWord 0b1011_000000000000000000000000000_1 = .ok (.setLoop true) := by
  decide
theorem test_decode_isPlaying :
    decodeWord 0b1100_000000000000000000000000_0000 = .ok .isPlaying := by decide
theorem test_decode_isPaused :
    decodeWord 0b1100_000000000000000000000000_0001 = .ok .isPaused := by decide
theorem test_decode_getSampleRate :
    decodeWord 0b1100_000000000000000000000000_0010 = .ok .getSampleRate := by decide
theorem test_decode_getBuffered :
    decodeWord 0b1100_000000000000000000000000_0011 = .ok .getBuffered := by decide
theorem test_decode_getLoop :
    decodeWord 0b1100_000000000000000000000000_0100 = .ok .getLoop := by decide

/-- R107 (a), (b), (c), and (c) on a field just above the operand. -/
theorem test_decode_illegal :
    decodeWord 0xD0000000 = .error .reservedOpcode ∧ decodeWord 0xC0000005 = .error .reservedSelector ∧
    decodeWord 0x00000001 = .error .reservedBits ∧ decodeWord 0x70000100 = .error .reservedBits := by
  decide

theorem test_decodeTableWord :
    decodeTableWord 32 0x20000001 = some (.play 1) ∧ decodeTableWord 32 0xF0000000 = none := by decide

/-! ### The assembler (R114 to R116) -/

theorem test_assemble_play : assembleText "  PLAY 1 ; ramp".toList = some [0x20000001] := by
  decide +kernel
theorem test_assemble_rate : assembleText "SET_RATE 0.3".toList = some [0x80004CCD] := by
  decide +kernel
theorem test_assemble_speedFromPulse :
    assembleText "SPEED_FROM_PULSE 1500, 1000, 2000, 0.5, 2.0".toList =
      some [0x900003E8, 0x910007D0, 0x92008000, 0x93020000, 0xA00005DC] := by decide +kernel
theorem test_assemble_pauseDefault : assembleLine .pauseDefault = some [0x40000001] := by decide
theorem test_assemble_playLooped : assembleLine (.playLooped 1) = some [0xB0000001, 0x20000001] := by
  decide

/-! ### WellFormed: one ill-formed line for each check -/

theorem test_wf_begin : (AsmLine.begin 256).wellFormed = false := by decide
theorem test_wf_play : (AsmLine.play 65536).wellFormed = false := by decide
theorem test_wf_pause : (AsmLine.pause 2).wellFormed = false := by decide
theorem test_wf_setVolume : (AsmLine.setVolume 256).wellFormed = false := by decide
theorem test_wf_setRate_code : (AsmLine.setRate (.code 16777216)).wellFormed = false := by decide
theorem test_wf_setRate_decimal : (AsmLine.setRate (.decimal 256 0)).wellFormed = false := by decide
theorem test_wf_setArg_idx : (AsmLine.setArg 4 0).wellFormed = false := by decide
theorem test_wf_setArg_value : (AsmLine.setArg 0 16777216).wellFormed = false := by decide
theorem test_wf_setSpeedPulse : (AsmLine.setSpeedPulse 65536).wellFormed = false := by decide
theorem test_wf_setLoop : (AsmLine.setLoop 2).wellFormed = false := by decide
theorem test_wf_query : (AsmLine.query 5).wellFormed = false := by decide
theorem test_wf_speedFromPulse :
    (AsmLine.speedFromPulse 65536 0 0 (.code 0) (.code 0)).wellFormed = false ∧
    (AsmLine.speedFromPulse 0 65536 0 (.code 0) (.code 0)).wellFormed = false ∧
    (AsmLine.speedFromPulse 0 0 65536 (.code 0) (.code 0)).wellFormed = false ∧
    (AsmLine.speedFromPulse 0 0 0 (.code 16777216) (.code 0)).wellFormed = false ∧
    (AsmLine.speedFromPulse 0 0 0 (.code 0) (.code 16777216)).wellFormed = false := by decide
theorem test_wf_playLooped : (AsmLine.playLooped 65536).wellFormed = false := by decide

/-! ### A small machine -/

/-- The parameters of 95_test_vectors.md, section 0. -/
def cfg : Params := ⟨64, 8, 16000000, by decide, by decide, by decide, by decide, by decide⟩

/-- Ten bytes `0xA0 .. 0xA9`. -/
def pcm : List Byte := [0xA0, 0xA1, 0xA2, 0xA3, 0xA4, 0xA5, 0xA6, 0xA7, 0xA8, 0xA9]

/-- File 2 of 95_test_vectors.md, section 0: `H(10, 8000)` and its ten bytes. -/
def file2 : List Byte := canonicalHeader 46 8000 8000 10 ++ pcm

/-- Stored files: 2 as in 95_test_vectors.md, 5 a file of another kind (RIFX), 6 a wrong third tag. -/
def files : List (Name × List Byte) :=
  [(2, file2), (5, file2.set 3 0x58), (6, file2.set 8 0x57 |>.set 9 0x57)]

/-- The reset state of that machine, with a device that delivers all that is asked and no timer steps
between segments; `duty` starts at an arbitrary value. -/
def quiet : State :=
  { State.reset with
    cfg := cfg, files := files, baseReload := 3999, reloadReg := 3999, reloadActive := 3999,
    duty := 0x55, timerScript := List.replicate 800 0, openScript := List.replicate 3 true,
    readScript := List.replicate 80 4294967295 }

/-- File 2 playing with three bytes buffered. -/
def playing : State :=
  { quiet with
    pstate := .playing, ie := true, streamActive := true, openFile := some 2, cur := 47,
    nameReg := 2, nameValid := true, dataStart := 44, dataSize := 10, dataPos := 3,
    sampleRate := 8000, baseReload := 1999, reloadReg := 1999, wr := 3, count := 3,
    rb := [(0, 0xA0), (1, 0xA1), (2, 0xA2)] }

/-- File 2 paused with three bytes buffered. -/
def paused : State := { playing with pstate := .paused, ie := false }

/-- File 2 at its end. -/
def ended : State := { playing with dataPos := 10, rd := 10, wr := 10, count := 0, cur := 54 }

/-- The state after the command of a word, run as the host's next action. -/
def after (w : Word) (s : State) : State :=
  match step (s.withFetchWord 32 w.toNat) with
  | .next t => t
  | _ => s

/-- One TICK of 95_test_vectors.md: the interrupt falls due and is taken. -/
def fire (s : State) : State := interruptEntry { s with tf := true }

/-! ### One command at a time (95_test_vectors.md, sections 2.4 to 2.8) -/

theorem test_nop : after 0x00000000 playing =
    { playing with respValid := true, timerScript := playing.timerScript.drop 1 } := by decide +kernel

theorem test_begin : (after 0x10000007 quiet).duty = 127 ∧ (after 0x10000007 quiet).storageSel = 7 ∧
    (after 0x10000007 quiet).respValue = 1 := by decide +kernel

theorem test_play_starts :
    let t := after 0x20000002 quiet
    t.pstate = .playing ∧ t.count = 10 ∧ t.dataPos = 10 ∧ t.wr = 10 ∧ t.reloadReg = 1999 ∧
    t.ie = true ∧ t.respStatus = 0 ∧ t.respValue = 1 := by decide +kernel

theorem test_play_fails :
    (after 0x20000009 quiet).respStatus = 1 ∧ (after 0x20000005 playing).respStatus = 2 ∧
    (after 0x20000005 playing).openFile = none ∧ (after 0x20000005 playing).nameReg = 5 := by
  decide +kernel

theorem test_stop :
    let t := after 0x30000000 playing
    t.pstate = .stopped ∧ t.ie = false ∧ t.duty = 127 ∧ t.openFile = none ∧ t.count = 3 := by
  decide +kernel

theorem test_pause : (after 0x40000001 playing).duty = 127 ∧ (after 0x40000001 playing).ie = false ∧
    (after 0x40000001 playing).pstate = .paused := by decide +kernel

theorem test_pause_without_mute : (after 0x40000000 playing).duty = playing.duty := by decide +kernel

theorem test_resume_discards_tick :
    let t := after 0x50000000 { paused with tf := true }
    t.pstate = .playing ∧ t.tf = false ∧ t.ie = true ∧ t.count = 3 := by decide +kernel

theorem test_update_refills :
    let t := after 0x60000000 playing
    t.count = 10 ∧ t.dataPos = 10 ∧ t.wr = 10 ∧ readByte t.rb 9 = some 0xA9 := by decide +kernel

theorem test_update_loops :
    let t := after 0x60000000 { ended with loopFlag := true }
    t.pstate = .playing ∧ t.count = 10 ∧ t.rd = 0 ∧ t.wr = 10 ∧ t.respValue = 0 := by decide +kernel

theorem test_setVolume_clamps : (after 0x700000FF quiet).volume = 8 ∧
    (after 0x70000004 quiet).volume = 4 := by decide +kernel

theorem test_setRate : (after 0x80020000 quiet).rateQ = 131072 ∧
    (after 0x80020000 quiet).reloadReg = 1999 := by decide +kernel

theorem test_setRate_clamps : (after 0x80000001 playing).rateQ = 19661 ∧
    (after 0x80FFFFFF playing).rateQ = 196608 := by decide +kernel

theorem test_setArg : after 0x910007D0 quiet =
    { quiet with arg1 := 2000, respValid := true, timerScript := quiet.timerScript.drop 2 } := by
  decide +kernel

theorem test_setSpeedPulse :
    let s := { playing with arg0 := 1000, arg1 := 2000, arg2 := 0x8000, arg3 := 0x20000 }
    (after 0xA00005DC s).rateQ = 81920 ∧ (after 0xA00005DC s).reloadReg = 1599 := by decide +kernel

/-- R23: bits 23:16 of the pulse bounds are ignored. -/
theorem test_setSpeedPulse_high_bits :
    let s := { playing with arg0 := 0x5003E8, arg1 := 0xFF07D0, arg2 := 0x8000, arg3 := 0x20000 }
    (after 0xA00005DC s).rateQ = 81920 := by decide +kernel

theorem test_setLoop : (after 0xB0000001 quiet).loopFlag = true ∧
    (after 0xB0000000 { quiet with loopFlag := true }).loopFlag = false := by decide +kernel

theorem test_isPlaying : (after 0xC0000000 playing).respValue = 1 ∧
    (after 0xC0000000 paused).respValue = 0 := by decide +kernel

theorem test_isPaused : (after 0xC0000001 playing).respValue = 0 ∧
    (after 0xC0000001 paused).respValue = 1 := by decide +kernel

theorem test_getSampleRate : (after 0xC0000002 playing).respValue = 8000 := by decide +kernel

theorem test_getBuffered : (after 0xC0000003 playing).respValue = 3 := by decide +kernel

theorem test_getLoop : (after 0xC0000004 { quiet with loopFlag := true }).respValue = 1 := by
  decide +kernel

/-- The state after `n` more steps. -/
def steps (n : Nat) (s : State) : State :=
  match core.run n s with
  | .next t => t
  | _ => s

/-- R25, R314: the index moves on by one a step, and the last segment leaves the sequencer idle. -/
theorem test_segments_of_setLoop :
    let s := { playing with host := [.accept 0xB0000001, .wait] }
    (steps 1 s).busy = true ∧ (steps 1 s).seq.index = 0 ∧ (steps 1 s).loopFlag = false ∧
    (steps 2 s).seq = .run 0xB0000001 [.done] ∧ (steps 2 s).loopFlag = true ∧
    (steps 2 s).respValid = false ∧ (steps 3 s).busy = false ∧ (steps 3 s).seq = .idle ∧
    (steps 3 s).respValid = true ∧ (steps 3 s).host = [.wait] := by decide +kernel

/-- R314: an interrupt is taken between two segments of a command: UPDATE has tested for the end of the
stream when TICK empties the ring. -/
theorem test_interrupt_between_segments :
    let s := { playing with host := [.accept 0x60000000], count := 1, rd := 2, tcnt := 3999,
                            timerScript := [0, 0, 1, 0] }
    (steps 3 s).count = 1 ∧ (steps 4 s).count = 0 ∧ (steps 4 s).duty = 0xA2 ∧
    (steps 4 s).seq = .run 0x60000000 [.flag false, .flag false, .flag false] := by decide +kernel

/-- A command's segments end in the state of the whole command (log 8). -/
theorem test_segments_of_setSpeedPulse :
    let s := { playing with arg0 := 1000, arg1 := 2000, arg2 := 0x8000, arg3 := 0x20000 }
    (steps 14 { s with host := [.accept 0xA00005DC] }).busy = true ∧
    steps 15 { s with host := [.accept 0xA00005DC] } =
      steps 1 { s with host := [.offer 0xA00005DC] } := by decide +kernel

theorem test_illegal_word : after 0xD0000000 playing =
    { playing with respStatus := 3, respValid := true,
                   timerScript := playing.timerScript.drop 1 } := by decide +kernel

/-- R307's example. -/
theorem test_interrupt_entry :
    fire { playing with volume := 4, rb := [(0, 200), (1, 0xA1), (2, 0xA2)] } =
    { playing with volume := 4, rb := [(0, 200), (1, 0xA1), (2, 0xA2)],
                   rd := 1, count := 2, duty := 146 } := by decide +kernel

/-- R310: a period of 50 steps, and the reload taken at its end. -/
theorem test_timer_period :
    let s := { quiet with reloadActive := 49, reloadReg := 99 }
    (holdTimer 49 s).tcnt = 49 ∧ (holdTimer 49 s).tf = false ∧ (holdTimer 50 s).tcnt = 0 ∧
    (holdTimer 50 s).tf = true ∧ (holdTimer 50 s).reloadActive = 99 := by decide +kernel

/-- R180, R181. -/
theorem test_basePeriod : basePeriod cfg 0 = 3999 ∧ basePeriod cfg 11025 = 1450 ∧
    basePeriod cfg 22050 = 724 ∧ basePeriod cfg 44100 = 499 := by decide +kernel

/-- R182 and section 2.4. -/
theorem test_reloadOfRate : reloadOfRate 499 19661 = 1666 ∧ reloadOfRate 3999 196608 = 1332 ∧
    reloadOfRate 49 19661 = 166 ∧ reloadOfRate 65534 65536 = 65534 := by decide +kernel

/-- R212 and section 2.5. -/
theorem test_attenuate : attenuate 4 4 = 97 ∧ attenuate 1 6 = 64 ∧ attenuate 126 0 = 127 ∧
    attenuate 129 5 = 128 := by decide +kernel

/-- R133, R134: wrapping at C = 4, and the full and empty rings. -/
theorem test_ring_wraps :
    let s := { quiet with cfg := ⟨4, 0, 1, by decide, by decide, by decide, by decide, by decide⟩,
                          rd := 3, wr := 3, count := 0 }
    (push 9 s).2.wr = 0 ∧ (pop (push 9 s).2).1 = some 9 ∧ (pop (push 9 s).2).2.rd = 0 ∧
    (push 9 { s with count := 4 }).1 = false := by decide +kernel

/-- R166: the canonical header, a chunk before the data, and a wrong format. -/
theorem test_parse :
    (parse.run { quiet with openFile := some 2 }).1 = .ok 44 10 8000 ∧
    (parse.run { quiet with
      openFile := some 3,
      files := [(3, (file2.take 36) ++ [0x4C, 0x49, 0x53, 0x54, 3, 0, 0, 0, 1, 2, 3] ++
        file2.drop 36)] }).1 = .ok 55 10 8000 ∧
    (parse.run { quiet with openFile := some 3, files := [(3, file2.set 22 2)] }).1 = .formatFail := by
  decide +kernel

end Tests

/-! ### Witnesses: concrete states and operands that meet the hypotheses of the statements -/

namespace Witnesses

open Machine Tests

theorem decodeOfEncode : (Instr.setArg 3 0xFFFFFF).wellFormed = true := by decide

theorem encodeOfDecode :
    decodeWord 0x93FFFFFF = .ok (.setArg 3 0xFFFFFF) ∧ decodeWord 0xC0000004 = .ok .getLoop := by decide

theorem decodeSelectsTableRow :
    decodeWord 0xB0000001 = .ok (.setLoop true) ∧ ∃ r ∈ opcodeTable, r.selects 0xB0000001 = true := by
  decide

theorem illegalWords :
    IsIllegal 0xD0000000 ∧ IsIllegal 0xC0000005 ∧ IsIllegal 0x00000001 ∧ ¬IsIllegal 0xC0000004 ∧
    (quiet.withFetchWord 32 0xC0000005).busy = false ∧
    (quiet.withFetchWord 32 0xC0000005).host = .offer 0xC0000005 :: [] ∧ quiet.ie = false := by
  unfold IsIllegal
  decide +kernel

theorem stepRunsDecodedWord :
    (quiet.withFetchWord 32 0x20000002).busy = false ∧
    (quiet.withFetchWord 32 0x20000002).host = .offer 0x20000002 :: [] ∧
    decodeWord 0x20000002 = .ok (.play 2) := by decide +kernel

/-- NOP's word, and a word whose command runs long. -/
theorem segmentsMakeTheCommand :
    ({ playing with host := [.accept 0] }).busy = false ∧
    ({ playing with host := [.accept 0] }).host = .accept 0 :: [] ∧
    ({ playing with host := [.accept 0x20000002, .wait] }).host = .accept 0x20000002 :: [.wait] := by
  decide +kernel

theorem timePasses :
    quiet.busy = false ∧ quiet.host = [] ∧ ({ quiet with host := [.wait] }).host = .wait :: [] ∧
    quiet.ie = false := by decide +kernel

/-- With a file open, and with none. -/
theorem hostMovesCursor :
    ({ playing with host := [.moveCursor 0xFFFFFFFF] }).busy = false ∧
    ({ playing with host := [.moveCursor 0xFFFFFFFF] }).host = .moveCursor 0xFFFFFFFF :: [] ∧
    playing.openFile.isSome = true ∧ ({ quiet with host := [.moveCursor 1] }).busy = false ∧
    ({ quiet with host := [.moveCursor 1] }).host = .moveCursor 1 :: [] ∧
    quiet.openFile.isSome = false := by decide +kernel

/-- `NoTimerStep`, in a form that evaluates: `t` has used up a prefix of zeros of the script. -/
theorem noTimerStep_of {s t : State} (h : t.timerScript ≠ [])
    (hs : s.timerScript =
      s.timerScript.take (s.timerScript.length - t.timerScript.length) ++ t.timerScript)
    (h0 : (s.timerScript.take (s.timerScript.length - t.timerScript.length)).sum = 0) :
    NoTimerStep s t :=
  ⟨h, _, [], hs, fun _ => rfl, .nil, by simp, by simp [h0]⟩

/-- SET_RATE, with the interrupt on, with it off, and with no timer step falling. -/
theorem timerRunsFreely :
    step (playing.withFetchWord 32 0x80020000) = .next (after 0x80020000 playing) ∧
    step (paused.withFetchWord 32 0x80020000) = .next (after 0x80020000 paused) ∧
    paused.ie = false ∧ (after 0x80020000 paused).ie = false ∧
    NoTimerStep (playing.withFetchWord 32 0x80020000) (after 0x80020000 playing) :=
  ⟨rfl, rfl, rfl, by decide +kernel,
    noTimerStep_of (by decide +kernel) (by decide +kernel) (by decide +kernel)⟩

/-- Both ends of every bound of R10, and each bound broken by one. -/
theorem configurationBounds :
    (Params.check 1 0 1).isSome = true ∧ (Params.check 65536 65535 4294967295).isSome = true ∧
    Params.check 0 0 1 = none ∧ Params.check 65537 0 1 = none ∧ Params.check 4 4 1 = none ∧
    Params.check 4 0 0 = none ∧ Params.check 4 0 4294967296 = none := by decide

/-- `RingInv`, field by field, in a form that evaluates. -/
abbrev RingChecks (s : State) : Prop :=
  s.count.toNat ≤ s.cfg.bufCap ∧ s.rd.toNat < s.cfg.bufCap ∧ s.wr.toNat < s.cfg.bufCap ∧
  s.wr.toNat = slotAfter s.cfg s.rd s.count.toNat ∧
  (∀ n, n < s.count.toNat → (readByte s.rb (slotAfter s.cfg s.rd n)).isSome = true) ∧
  Memory.wf s.rb = true ∧ (∀ c ∈ s.rb, c.1 < s.cfg.bufCap)

theorem ringInv_of {s : State} (h : RingChecks s) : RingInv s :=
  ⟨h.1, h.2.1, h.2.2.1, h.2.2.2.1, h.2.2.2.2.1, h.2.2.2.2.2.1, h.2.2.2.2.2.2⟩

/-- `Inv`, field by field, in a form that evaluates. -/
abbrev InvChecks (s : State) : Prop :=
  RingChecks s ∧ s.dataPos.toNat ≤ s.dataSize.toNat ∧ s.volume.toNat ≤ Config.volMax ∧
  Config.rateMinQ ≤ s.rateQ.toNat ∧ s.rateQ.toNat ≤ Config.rateMaxQ ∧ 49 ≤ s.baseReload.toNat ∧
  s.baseReload.toNat ≤ 65534 ∧ 49 ≤ s.reloadReg.toNat ∧ s.reloadReg.toNat ≤ 65534 ∧
  49 ≤ s.reloadActive.toNat ∧ s.reloadActive.toNat ≤ 65534 ∧ s.tcnt.toNat ≤ s.reloadActive.toNat ∧
  (s.pstate = .stopped → s.ie = false) ∧ (s.pstate = .paused → s.ie = false) ∧
  (s.streamActive = true ↔ s.pstate ≠ .stopped) ∧
  s.openFile.all (fun name => (lookupFile s.files name).isSome) = true ∧
  (∀ f ∈ s.files, f.2.length ≤ Config.offsetMax) ∧ s.respStatus.toNat ≤ 3

theorem inv_of {s : State} (h : InvChecks s) : Inv s := by
  obtain ⟨hr, h1, h2, h3, h4, h5, h6, h7, h8, h9, h10, h11, h12, h13, h14, h15, h16, h17⟩ := h
  exact ⟨ringInv_of hr, h1, h2, h3, h4, h5, h6, h7, h8, h9, h10, h11, h12, h13, h14,
    fun name hn => by rw [hn] at h15; exact h15, h16, h17⟩

/-- `RestInv`, in a form that evaluates. -/
theorem restInv_of {s : State} (h : InvChecks s)
    (hr : s.streamActive = s.openFile.isSome ∧ s.busy = false ∧ s.seq = .idle) : RestInv s :=
  ⟨inv_of h, hr.1, hr.2.1, hr.2.2⟩

theorem playing_ringInv : RingInv playing := ringInv_of (by decide +kernel)

theorem playing_restInv : RestInv playing := restInv_of (by decide +kernel) (by decide +kernel)

theorem playing_streamInv : StreamInv playing := by
  unfold StreamInv
  decide +kernel

/-- STOP between TEARDOWN and its last segment, `finish`. -/
def stopping : State :=
  { playing with
    pstate := .stopped, ie := false, streamActive := false, openFile := none, duty := 127,
    busy := true, seq := .run 0x30000000 [.done, .flag true, .done] }

theorem stopping_left :
    (wordCode 0x30000000).after [.done, .flag true, .done] = Code.finish .ok fun _ => 0 := by
  have h : decodeWord 0x30000000 = .ok .stop := by decide
  simp only [wordCode, h, commandCode]
  rfl

theorem stopping_legal : Legal stopping ∧ StreamLegal stopping := by
  simp only [Legal, StreamLegal, Throughout, stopping, stopping_left]
  exact ⟨⟨inv_of (by decide +kernel), restInv_of (by decide +kernel) (by decide +kernel)⟩,
    trivial, fun h => absurd h (by decide +kernel)⟩

/-- For the statements about a step from a state that meets the invariants: between commands, and in the
middle of one. -/
theorem stepKeepsInvariants :
    Legal playing ∧ StreamLegal playing ∧ playing.streamActive = true ∧
    (∃ t, step playing = .next t) ∧ Legal stopping ∧ StreamLegal stopping ∧
    ∃ t, step stopping = .next t :=
  ⟨playing_restInv, playing_streamInv, rfl, ⟨_, rfl⟩, stopping_legal.1, stopping_legal.2, _, rfl⟩

/-- A full ring at C = 64. -/
def full : State := { playing with rd := 63, wr := 63, count := 64 }

/-- A ring of C = 4 with one slot free. -/
def nearlyFull : State :=
  { playing with
    cfg := ⟨4, 0, 16000000, by decide, by decide, by decide, by decide, by decide⟩,
    rd := 3, wr := 2, count := 3, rb := [(0, 0xA1), (1, 0xA2), (3, 0xA0)] }

theorem nearlyFull_ringInv : RingInv nearlyFull := ringInv_of (by decide +kernel)

theorem pushContract :
    playing.wr.toNat < playing.cfg.bufCap ∧ playing.count.toNat < playing.cfg.bufCap ∧
    RingInv nearlyFull ∧ nearlyFull.count.toNat + 1 = nearlyFull.cfg.bufCap ∧
    full.wr.toNat < full.cfg.bufCap ∧ full.cfg.bufCap ≤ full.count.toNat :=
  ⟨by decide +kernel, by decide +kernel, nearlyFull_ringInv, by decide +kernel, by decide +kernel,
    by decide +kernel⟩

theorem popContract : 0 < playing.count.toNat ∧ RingInv playing ∧ ended.count.toNat = 0 :=
  ⟨by decide +kernel, playing_ringInv, by decide +kernel⟩

theorem ringInvariantPreserved :
    Memory.wf full.rb = true ∧ (∀ c ∈ full.rb, c.1 < full.cfg.bufCap) ∧ RingInv playing ∧
    (push 9 full).1 = false ∧ (pop ended).1 = none :=
  ⟨by decide +kernel, by decide +kernel, playing_ringInv, by decide +kernel, by decide +kernel⟩

theorem ringRefinesQueue :
    RingInv playing ∧ playing.count.toNat < playing.cfg.bufCap ∧
    ringContents playing = 0xA0 :: [0xA1, 0xA2] ∧ ringContents ended = [] :=
  ⟨playing_ringInv, by decide +kernel, by decide +kernel, by decide +kernel⟩

theorem underrun : ended.count = 0 ∧ ended.volume.toNat ≤ 8 := by decide +kernel

theorem interruptEntry :
    playing.volume.toNat ≤ 8 ∧ paused.ie = false ∧ playing.tf = false ∧
    ({ ended with tf := true }).ie = true ∧ ({ ended with tf := true }).tf = true ∧
    ({ ended with tf := true }).count = 0 ∧ ({ playing with tf := true }).ie = true ∧
    ({ playing with tf := true }).tf = true ∧ 0 < playing.count.toNat := by decide +kernel

theorem timerPeriod : quiet.tcnt = 0 ∧ 3999 ≤ quiet.reloadActive.toNat := by decide +kernel

theorem hold : ({ playing with tf := true }).tf = true := by decide +kernel

/-- A wrong first tag (file 5) and a wrong third tag (file 6). -/
theorem parseRejects :
    quiet.cur = 0 ∧ (openBytes { quiet with openFile := some 5 }).length ≤ 2 ^ 32 - 1 ∧
    (openBytes { quiet with openFile := some 5 }).take 4 ≠ tagRiff ∧
    (openBytes { quiet with openFile := some 6 }).length ≤ 2 ^ 32 - 1 ∧
    ((openBytes { quiet with openFile := some 6 }).drop 8).take 4 ≠ tagWave := by decide +kernel

/-- For the statements about a successful parse. -/
theorem parseOk :
    (openBytes { quiet with openFile := some 2 }).length ≤ 2 ^ 32 - 1 ∧
    (parse.run { quiet with openFile := some 2 }).1 = .ok 44 10 8000 := by decide +kernel

theorem parseFuel :
    (openBytes playing).length ≤ 2 ^ 32 - 1 ∧ (openBytes playing).length / 8 + 1 ≤ parseBound := by
  decide +kernel

theorem parseCanonical :
    8000 < 2 ^ 32 ∧ 10 < 2 ^ 32 ∧ quiet.cur = 0 ∧
    openBytes { quiet with openFile := some 2 } = canonicalHeader 46 8000 8000 10 ++ pcm ∧
    FaithfulReads 13 quiet := by
  unfold FaithfulReads
  decide +kernel

/-- Clocks of 199 kHz and of 262.144 MHz, each just past a bound of the period at 4000 Hz. -/
def slowClock : Params := ⟨64, 8, 199999, by decide, by decide, by decide, by decide, by decide⟩
def fastClock : Params := ⟨64, 8, 262144000, by decide, by decide, by decide, by decide, by decide⟩

/-- Sample rates at both ends, and quotients within, below and above the period's bounds. -/
theorem basePeriodClamps :
    50 ≤ cfg.timerClkHz / 4000 ∧ cfg.timerClkHz / 4000 ≤ 65535 ∧
    50 ≤ cfg.timerClkHz / 32000 ∧ cfg.timerClkHz / 32000 ≤ 65535 ∧
    slowClock.timerClkHz / 4000 = 49 ∧ fastClock.timerClkHz / 4000 = 65536 := by decide

/-- A pulse just inside each end of the range, in both directions (R187). -/
theorem pulseInterior :
    (1000 < (1001 : Int) ∧ (1001 : Int) < 2000) ∧ (1000 < (1999 : Int) ∧ (1999 : Int) < 2000) ∧
    pulseRate 1001 1000 2000 0 1999 = 1 ∧ pulseRate 1999 2000 1000 0 1999 = 1 ∧
    pulseRate 1999 1000 2000 1999 0 = 2 := by decide

/-- Level 7 halves nothing, level 0 shifts by 4: the ends of the clause (R211, R212). -/
theorem attenuateValue : (7 : Nat) < 8 ∧ (0 : Nat) < 8 := by decide

/-- The smallest rate, and a base whose quotient lies below 50. -/
theorem reloadRange : (49 + 1) * 65536 < 50 * 65537 ∧ 19661 ≤ 65537 ∧ 49 ≤ 65534 := by decide

theorem beginLatches : quiet.ie = false ∧ playing.tf = false ∧ Quiet 5 playing := by
  unfold Quiet
  decide +kernel

theorem playOutcomes : OpenOnlyIfActive playing := by
  unfold OpenOnlyIfActive
  decide +kernel

theorem playFailureCauses :
    lookupFile quiet.files 9 = none ∧
    lookupFile quiet.files 5 = some (file2.set 3 0x58) ∧ (file2.set 3 0x58).length ≤ 2 ^ 32 - 1 ∧
    quiet.openScript = true :: [true, true] ∧ (file2.set 3 0x58).take 4 ≠ tagRiff := by decide +kernel

theorem playPrimes :
    8000 < 2 ^ 32 ∧ 10 ≤ pcm.length ∧ 44 + pcm.length ≤ 2 ^ 32 - 1 ∧
    lookupFile playing.files 2 = some (canonicalHeader 46 8000 8000 10 ++ pcm) ∧
    playing.openScript = true :: [true, true] ∧ FaithfulReads (13 + playing.cfg.bufCap) playing ∧
    Quiet (100 + 10 * playing.cfg.bufCap) playing := by
  unfold FaithfulReads Quiet
  decide +kernel

theorem pauseAndResume :
    playing.pstate = .playing ∧ playing.tf = false ∧ Quiet 2 playing ∧ paused.pstate = .paused ∧
    paused.ie = false ∧ Quiet 6 paused := by
  unfold Quiet
  decide +kernel

theorem wrongState : paused.pstate ≠ .playing ∧ playing.pstate ≠ .paused ∧ quiet.pstate ≠ .playing := by
  decide +kernel

theorem updateStops :
    ended.pstate = .playing ∧ endOfStream ended = true ∧ loopDue ended = false := by decide +kernel

theorem updateRestarts :
    ({ ended with loopFlag := true }).pstate = .playing ∧
    endOfStream { ended with loopFlag := true } = true ∧
    loopDue { ended with loopFlag := true } = true ∧
    OpenOnlyIfActive { ended with loopFlag := true } := by
  unfold OpenOnlyIfActive
  decide +kernel

/-- A restart in which no timer step falls. -/
theorem updateRestarts_quiet :
    let s := { ended with loopFlag := true }
    exec .update s = .next (updateCode.run s).2 ∧ (updateCode.run s).2.respStatus = 0 ∧
    NoTimerStep s (updateCode.run s).2 :=
  ⟨rfl, by decide +kernel, noTimerStep_of (by decide +kernel) (by decide +kernel) (by decide +kernel)⟩

/-- All data read, and three bytes still to be played (R253). -/
def draining : State := { playing with dataPos := 10, rd := 7, wr := 10, cur := 54,
                                       rb := [(7, 0xA7), (8, 0xA8), (9, 0xA9)] }

/-- Data remains; a draining stream; and, in a state no run reaches, a stopped clock leaves bytes
buffered. -/
theorem updateRefills :
    playing.pstate = .playing ∧ playing.dataPos.toNat ≤ playing.dataSize.toNat ∧
    playing.wr.toNat < playing.cfg.bufCap ∧ playing.streamActive = true ∧
    (playing.dataPos.toNat < playing.dataSize.toNat ∧ playing.eod = false) ∧
    draining.pstate = .playing ∧ draining.dataPos.toNat ≤ draining.dataSize.toNat ∧
    draining.wr.toNat < draining.cfg.bufCap ∧ draining.dataPos = draining.dataSize ∧
    (draining.tf = false ∧ Quiet 2 draining ∧ draining.count ≠ 0) ∧
    (({ playing with ie := false, eod := true }).ie = false ∧ playing.count ≠ 0) := by
  unfold Quiet
  decide +kernel

/-- An UPDATE that reads seven bytes while no timer step falls. -/
theorem updateRefills_quiet :
    playing.tf = false ∧ playing.rd.toNat < playing.cfg.bufCap ∧
    exec .update playing = .next (updateCode.run playing).2 ∧
    NoTimerStep playing (updateCode.run playing).2 :=
  ⟨rfl, by decide +kernel, rfl,
    noTimerStep_of (by decide +kernel) (by decide +kernel) (by decide +kernel)⟩

/-- For the statements about REFILL with the interrupt off. -/
theorem refillQuiet :
    paused.ie = false ∧ paused.streamActive = true ∧ (openBytes paused).length ≤ 2 ^ 32 - 1 ∧
    paused.dataSize.toNat - paused.dataPos.toNat + 1 = 8 := by decide +kernel

theorem playbackTransitions : ∃ t, exec (.pause true) playing = .next t := ⟨_, rfl⟩

/-- An offered PLAY. -/
theorem onlyTheseCommands : ∃ t, step (quiet.withFetchWord 32 0x20000002) = .next t ∧
    t.pstate ≠ (quiet.withFetchWord 32 0x20000002).pstate :=
  ⟨_, rfl, by decide +kernel⟩

/-- The segment of a running PAUSE that changes the state. -/
theorem onlyTheseCommands_running :
    let s := { playing with busy := true, seq := .run 0x40000001 [.flag true, .done, .flag true] }
    ∃ t, step s = .next t ∧ t.pstate ≠ s.pstate := ⟨_, rfl, by decide +kernel⟩

/-- The reset state of the test machine, silent. -/
def silent : State := { quiet with duty := 127 }

theorem silent_inv : Inv silent := inv_of (by decide +kernel)

theorem silenceHolds :
    Inv silent ∧ silent.pstate = .stopped ∧ silent.duty = 127 ∧
    ∃ t, step silent = .next t ∧ t.pstate = .stopped :=
  ⟨silent_inv, rfl, rfl, _, rfl, by decide +kernel⟩

end Witnesses

end Sys2Proof
end

section
/-! The acceptance of a configuration (R10). -/

namespace Sys2Proof

/-- A configuration carries the proofs of its bounds, so the check of its own three values gives it back. -/
@[simp] theorem Params.check_self (p : Params) :
    Params.check p.bufCap p.margin p.timerClkHz = some p :=
  dif_pos ⟨p.bufCap_pos, p.bufCap_le, p.margin_lt, p.timerClk_pos, p.timerClk_le⟩

/-- What is accepted holds the three values given, and with them the proofs of their bounds. -/
theorem Params.check_eq_some_iff {c m f : Nat} {p : Params} :
    Params.check c m f = some p ↔ p.bufCap = c ∧ p.margin = m ∧ p.timerClkHz = f := by
  constructor
  · intro h
    unfold Params.check at h
    split at h
    · cases h
      exact ⟨rfl, rfl, rfl⟩
    · cases h
  · rintro ⟨rfl, rfl, rfl⟩
    exact p.check_self

/-- Settles O12: values within the bounds are those of a configuration, which the check returns; and a
configuration that the check returns would prove the bounds of its values. -/
theorem configurationBounds : Obligations.ConfigurationBounds := by
  intro c m f
  constructor
  · rintro ⟨hc, hcap, hm, hf, hclk⟩
    let p : Params := ⟨c, m, f, hc, hcap, hm, hf, hclk⟩
    exact ⟨p, p.check_self, rfl, rfl, rfl⟩
  · intro hout
    rw [Option.eq_none_iff_forall_ne_some]
    intro p hp
    obtain ⟨rfl, rfl, rfl⟩ := Params.check_eq_some_iff.mp hp
    exact hout ⟨p.bufCap_pos, p.bufCap_le, p.margin_lt, p.timerClk_pos, p.timerClk_le⟩

end Sys2Proof
end

section
/-! Decoding by the opcode map (R105), and the three grounds of R107. -/

namespace Sys2Proof

open Machine

/-! ### Masks and fields of a command word -/

/-- The mask of the field `w[lo + n - 1 : lo]`. -/
def fieldMask (lo n : Nat) : Word := (BitVec.allOnes n).setWidth 32 <<< lo

theorem getLsbD_fieldMask {lo n k : Nat} (hk : k < 32) :
    (fieldMask lo n).getLsbD k = decide (lo ≤ k ∧ k < lo + n) := by
  simp only [fieldMask, BitVec.getLsbD_shiftLeft, BitVec.getLsbD_setWidth, BitVec.getLsbD_allOnes]
  grind

/-- Two words agree under the mask of a field exactly when they hold the same value in it. -/
theorem and_fieldMask_eq_iff {lo n : Nat} (h : lo + n ≤ 32) (v w : Word) :
    w &&& fieldMask lo n = v &&& fieldMask lo n ↔ w.extractLsb' lo n = v.extractLsb' lo n := by
  constructor
  · intro heq
    apply BitVec.eq_of_getLsbD_eq
    intro k hk
    have hbit := congrArg (·.getLsbD (lo + k)) heq
    have hin : (fieldMask lo n).getLsbD (lo + k) = true := by
      rw [getLsbD_fieldMask (by omega), decide_eq_true_eq]
      omega
    simpa [hin, hk] using hbit
  · intro heq
    apply BitVec.eq_of_getLsbD_eq
    intro k hk
    simp only [BitVec.getLsbD_and, getLsbD_fieldMask hk]
    by_cases hin : lo ≤ k ∧ k < lo + n
    · have hbit := congrArg (·.getLsbD (k - lo)) heq
      have hlt : k - lo < n := by omega
      have hadd : lo + (k - lo) = k := by omega
      simpa [hin, hlt, hadd] using hbit
    · simp [hin]

/-- A field is zero exactly when masking the word with it leaves nothing. -/
theorem and_fieldMask_eq_zero_iff {lo n : Nat} (h : lo + n ≤ 32) (w : Word) :
    w &&& fieldMask lo n = 0 ↔ w.extractLsb' lo n = 0 := by
  simpa using and_fieldMask_eq_iff h 0 w

/-- To agree under two masks together is to agree under each. -/
theorem and_or_eq_and_or_iff (a b v w : Word) :
    w &&& (a ||| b) = v &&& (a ||| b) ↔ w &&& a = v &&& a ∧ w &&& b = v &&& b := by
  constructor
  · intro h
    have ha : (a ||| b) &&& a = a := by ext k hk; grind
    have hb : (a ||| b) &&& b = b := by ext k hk; grind
    constructor
    · rw [← ha, ← BitVec.and_assoc, h, BitVec.and_assoc]
    · rw [← hb, ← BitVec.and_assoc, h, BitVec.and_assoc]
  · rintro ⟨ha, hb⟩
    rw [BitVec.and_or_distrib_left, BitVec.and_or_distrib_left, ha, hb]

theorem opcodeOf_eq_iff (v w : Word) :
    opcodeOf w = opcodeOf v ↔ w &&& fieldMask 28 4 = v &&& fieldMask 28 4 := by
  rw [and_fieldMask_eq_iff (by decide), opcodeOf, opcodeOf, BitVec.toNat_inj]

/-! ### The rows of the opcode map -/

/-- The selector field `w[3:0]` of opcode 0xC (R102). -/
def selectorOf (w : Word) : Nat := (w.extractLsb' 0 4).toNat

theorem selectorOf_eq_iff (v w : Word) :
    selectorOf w = selectorOf v ↔ w &&& fieldMask 0 4 = v &&& fieldMask 0 4 := by
  rw [and_fieldMask_eq_iff (by decide), selectorOf, selectorOf, BitVec.toNat_inj]

/-- The word has the row's opcode, and under opcode 0xC the row's selector. -/
structure OpcodeRow.Fits (r : OpcodeRow) (w : Word) : Prop where
  opcode : opcodeOf w = opcodeOf r.value
  selector : opcodeOf w = 0xC → selectorOf w = selectorOf r.value

/-- The bits that choose a row under opcode `op`: the opcode, and under 0xC the selector (R105). -/
def keyMask (op : Nat) : Word := fieldMask 28 4 ||| if op = 0xC then fieldMask 0 4 else 0

/-- A word fits a row when the two agree on the bits that choose a row. -/
theorem fits_iff (r : OpcodeRow) (w : Word) :
    r.Fits w ↔ w &&& keyMask (opcodeOf r.value) = r.value &&& keyMask (opcodeOf r.value) := by
  rw [keyMask, and_or_eq_and_or_iff, ← opcodeOf_eq_iff]
  by_cases hC : opcodeOf r.value = 0xC
  · rw [if_pos hC, ← selectorOf_eq_iff]
    exact ⟨fun ⟨hop, hsel⟩ => ⟨hop, hsel (hop.trans hC)⟩, fun ⟨hop, hsel⟩ => ⟨hop, fun _ => hsel⟩⟩
  · rw [if_neg hC]
    exact ⟨fun ⟨hop, _⟩ => ⟨hop, by simp⟩, fun ⟨hop, _⟩ => ⟨hop, fun h => absurd (hop ▸ h) hC⟩⟩

/-- Every row's mask covers the bits that choose the row and its reserved bits, which the row holds at zero. -/
theorem opcodeTable_masks : ∀ r ∈ opcodeTable,
    r.mask = keyMask (opcodeOf r.value) ||| reservedMask (opcodeOf r.value) ∧
    r.value &&& r.mask = r.value ∧ r.value &&& reservedMask (opcodeOf r.value) = 0 := by
  decide

/-- No row has a reserved opcode or a reserved selector (R107). -/
theorem opcodeTable_legal : ∀ r ∈ opcodeTable,
    opcodeOf r.value < 0xD ∧ (opcodeOf r.value = 0xC → selectorOf r.value < 5) := by
  decide

/-- Any two rows differ in a bit that both masks see. -/
theorem opcodeTable_disjoint : ∀ r ∈ opcodeTable, ∀ q ∈ opcodeTable,
    r.value &&& q.mask = q.value &&& r.mask → r = q := by
  decide

/-- A row's mask and match say: the word fits the row, and its reserved bits are zero (R104, R105). -/
theorem selects_iff {r : OpcodeRow} (hr : r ∈ opcodeTable) (w : Word) :
    r.selects w = true ↔ r.Fits w ∧ w &&& reservedMask (opcodeOf w) = 0 := by
  obtain ⟨hmask, hvalue, hzero⟩ := opcodeTable_masks r hr
  calc r.selects w = true
      ↔ w &&& r.mask = r.value &&& r.mask := by simp [OpcodeRow.selects, hvalue]
    _ ↔ r.Fits w ∧ w &&& reservedMask (opcodeOf r.value) = 0 := by
        rw [hmask, and_or_eq_and_or_iff, hzero, fits_iff]
    _ ↔ r.Fits w ∧ w &&& reservedMask (opcodeOf w) = 0 :=
        and_congr_right fun hfit => by rw [hfit.opcode]

/-- At most one row matches any word (R105): the two rows would agree where both masks look. -/
theorem eq_of_selects {r q : OpcodeRow} {w : Word} (hr : r ∈ opcodeTable) (hq : q ∈ opcodeTable)
    (hrw : r.selects w = true) (hqw : q.selects w = true) : r = q := by
  simp only [OpcodeRow.selects, decide_eq_true_eq] at hrw hqw
  refine opcodeTable_disjoint r hr q hq ?_
  rw [← hrw, ← hqw, BitVec.and_assoc, BitVec.and_assoc, BitVec.and_comm r.mask]

/-- No illegal word selects a row: what R107 forbids, the row's mask sees. -/
theorem not_isIllegal_of_selects {r : OpcodeRow} {w : Word} (hr : r ∈ opcodeTable)
    (hw : r.selects w = true) : ¬ IsIllegal w := by
  obtain ⟨⟨hop, hsel⟩, hzero⟩ := (selects_iff hr w).mp hw
  obtain ⟨hlt, hlt5⟩ := opcodeTable_legal r hr
  rintro (hD | ⟨hC, h5⟩ | hres)
  · omega
  · exact absurd h5 (hsel hC ▸ hlt5 (hop ▸ hC)).not_ge
  · exact hres hzero

/-! ### What the decoder does -/

/-- `d` is the decoding of `w` by a row that fits it: that row's command if the reserved bits are zero, else an
error (R104). -/
def DecodesByRow (w : Word) (d : Except IllegalWord Instr) : Prop :=
  ∃ r ∈ opcodeTable, r.Fits w ∧ ∃ i : Instr, i.mnemonic = r.mnemonic ∧
    d = if w &&& reservedMask (opcodeOf w) = 0 then .ok i else .error .reservedBits

/-- One arm of the decoder: the command `i` of the row `r`, whose format has the reserved bits
`w[lo + n - 1 : lo]`. -/
theorem withReservedZero_decodesByRow {w : Word} {lo n : Nat} {i : Instr} {r : OpcodeRow}
    (hr : r ∈ opcodeTable) (hfit : r.Fits w) (hi : i.mnemonic = r.mnemonic) (hle : lo + n ≤ 32)
    (hmask : reservedMask (opcodeOf r.value) = fieldMask lo n) :
    DecodesByRow w (withReservedZero w lo n i) := by
  refine ⟨r, hr, hfit, i, hi, ?_⟩
  simp only [withReservedZero, hfit.opcode, hmask, and_fieldMask_eq_zero_iff hle]

/-- An arm of `decodeWord`: outside 0xC the opcode alone chooses the row. -/
theorem decodesByRow_of_opcode {w : Word} {lo n op : Nat} {i : Instr} (name : String)
    (hop : opcodeOf w = op) (hi : i.mnemonic = name)
    (harm : op ≠ 0xC ∧ lo + n ≤ 32 ∧ reservedMask op = fieldMask lo n ∧
      ∃ r ∈ opcodeTable, r.mnemonic = name ∧ opcodeOf r.value = op) :
    DecodesByRow w (withReservedZero w lo n i) := by
  obtain ⟨hC, hle, hmask, r, hr, hname, hval⟩ := harm
  exact withReservedZero_decodesByRow hr ⟨hop.trans hval.symm, fun h => absurd (hop.symm.trans h) hC⟩
    (hi.trans hname.symm) hle (hval ▸ hmask)

/-- An arm of `decodeQuery`: under opcode 0xC the selector chooses the row. -/
theorem decodesByRow_of_selector {w : Word} {sel : Nat} {i : Instr} (name : String)
    (hop : opcodeOf w = 0xC) (hsel : selectorOf w = sel) (hi : i.mnemonic = name)
    (hrow : ∃ r ∈ opcodeTable, r.mnemonic = name ∧ opcodeOf r.value = 0xC ∧ selectorOf r.value = sel) :
    DecodesByRow w (withReservedZero w 4 24 i) := by
  obtain ⟨r, hr, hname, hval, hselval⟩ := hrow
  exact withReservedZero_decodesByRow hr ⟨hop.trans hval.symm, fun _ => hsel.trans hselval.symm⟩
    (hi.trans hname.symm) (by decide) (by rw [hval]; decide)

/-- What the decoder does under opcode 0xC (R107). -/
theorem decodeQuery_cases {w : Word} (hop : opcodeOf w = 0xC) :
    (5 ≤ selectorOf w ∧ decodeQuery w = .error .reservedSelector) ∨
    DecodesByRow w (decodeQuery w) := by
  unfold decodeQuery
  split
  case h_1 hsel => exact .inr (decodesByRow_of_selector "IS_PLAYING" hop hsel rfl (by decide))
  case h_2 hsel => exact .inr (decodesByRow_of_selector "IS_PAUSED" hop hsel rfl (by decide))
  case h_3 hsel => exact .inr (decodesByRow_of_selector "GET_SAMPLE_RATE" hop hsel rfl (by decide))
  case h_4 hsel => exact .inr (decodesByRow_of_selector "GET_BUFFERED" hop hsel rfl (by decide))
  case h_5 hsel => exact .inr (decodesByRow_of_selector "GET_LOOP" hop hsel rfl (by decide))
  case h_6 => exact .inl ⟨by unfold selectorOf; grind, rfl⟩

/-- The three things the decoder can do with a word (R107, R109). -/
theorem decodeWord_cases (w : Word) :
    (0xD ≤ opcodeOf w ∧ decodeWord w = .error .reservedOpcode) ∨
    (opcodeOf w = 0xC ∧ 5 ≤ selectorOf w ∧ decodeWord w = .error .reservedSelector) ∨
    DecodesByRow w (decodeWord w) := by
  unfold decodeWord
  split
  case h_1 hop => exact .inr (.inr (decodesByRow_of_opcode "NOP" hop rfl (by decide)))
  case h_2 hop => exact .inr (.inr (decodesByRow_of_opcode "BEGIN" hop rfl (by decide)))
  case h_3 hop => exact .inr (.inr (decodesByRow_of_opcode "PLAY" hop rfl (by decide)))
  case h_4 hop => exact .inr (.inr (decodesByRow_of_opcode "STOP" hop rfl (by decide)))
  case h_5 hop => exact .inr (.inr (decodesByRow_of_opcode "PAUSE" hop rfl (by decide)))
  case h_6 hop => exact .inr (.inr (decodesByRow_of_opcode "RESUME" hop rfl (by decide)))
  case h_7 hop => exact .inr (.inr (decodesByRow_of_opcode "UPDATE" hop rfl (by decide)))
  case h_8 hop => exact .inr (.inr (decodesByRow_of_opcode "SET_VOLUME" hop rfl (by decide)))
  case h_9 hop => exact .inr (.inr (decodesByRow_of_opcode "SET_RATE" hop rfl (by decide)))
  case h_10 hop => exact .inr (.inr (decodesByRow_of_opcode "SET_ARG" hop rfl (by decide)))
  case h_11 hop => exact .inr (.inr (decodesByRow_of_opcode "SET_SPEED_PULSE" hop rfl (by decide)))
  case h_12 hop => exact .inr (.inr (decodesByRow_of_opcode "SET_LOOP" hop rfl (by decide)))
  case h_13 hop =>
    rcases decodeQuery_cases hop with ⟨h5, hd⟩ | hrow
    · exact .inr (.inl ⟨hop, h5, hd⟩)
    · exact .inr (.inr hrow)
  case h_14 => exact .inl ⟨by grind, rfl⟩

/-- A word that decodes is selected by its command's row. -/
theorem exists_selects_of_decodeWord {w : Word} {i : Instr} (h : decodeWord w = .ok i) :
    ∃ r ∈ opcodeTable, r.mnemonic = i.mnemonic ∧ r.selects w = true := by
  rcases decodeWord_cases w with ⟨-, hd⟩ | ⟨-, -, hd⟩ | ⟨r, hr, hfit, j, hj, hd⟩
  · cases h.symm.trans hd
  · cases h.symm.trans hd
  · rw [h] at hd
    split at hd
    · next hzero =>
      cases hd
      exact ⟨r, hr, hj.symm, (selects_iff hr w).mpr ⟨hfit, hzero⟩⟩
    · cases hd

/-- R107: the decoder rejects a word only on one of the three grounds. -/
theorem isIllegal_of_decodeWord {w : Word} {e : IllegalWord} (h : decodeWord w = .error e) :
    IsIllegal w := by
  rcases decodeWord_cases w with ⟨hD, -⟩ | ⟨hC, h5, -⟩ | ⟨r, hr, hfit, j, hj, hd⟩
  · exact .inl hD
  · exact .inr (.inl ⟨hC, h5⟩)
  · refine .inr (.inr fun hzero => ?_)
    rw [if_pos hzero, h] at hd
    cases hd

/-- R107: a word is illegal on the three grounds and on no other. -/
theorem decodeWord_error_iff (w : Word) : (∃ e, decodeWord w = .error e) ↔ IsIllegal w := by
  refine ⟨fun ⟨_, h⟩ => isIllegal_of_decodeWord h, fun hill => ?_⟩
  cases hd : decodeWord w with
  | error e => exact ⟨e, rfl⟩
  | ok i =>
    obtain ⟨r, hr, -, hsel⟩ := exists_selects_of_decodeWord hd
    exact absurd hill (not_isIllegal_of_selects hr hsel)

/-- A word that selects a row decodes to a command of that row: it is legal, and its command's row, which it
selects too, can be no other. -/
theorem decodeWord_of_selects {r : OpcodeRow} {w : Word} (hr : r ∈ opcodeTable)
    (hw : r.selects w = true) : ∃ i : Instr, decodeWord w = .ok i ∧ i.mnemonic = r.mnemonic := by
  cases hd : decodeWord w with
  | error e => exact absurd (isIllegal_of_decodeWord hd) (not_isIllegal_of_selects hr hw)
  | ok i =>
    obtain ⟨q, hq, hmn, hqw⟩ := exists_selects_of_decodeWord hd
    exact ⟨i, rfl, eq_of_selects hq hr hqw hw ▸ hmn.symm⟩

/-- Settles O3: the decoder's arms are the rows, and any two rows differ where both masks look. -/
theorem decodeSelectsTableRow : Obligations.DecodeSelectsTableRow :=
  ⟨fun _ _ h => exists_selects_of_decodeWord h, fun _ _ hr hw => decodeWord_of_selects hr hw,
    fun _ _ hr _ hq hrw hqw => eq_of_selects hr hq hrw hqw⟩

end Sys2Proof
end

section
/-! The sample clock behind a command, and the one segment of an illegal word (R107, R314). -/

namespace Sys2Proof

namespace Machine

/-! ### Steps of the sample clock alone -/

/-- Timer steps with the interrupt open are steps of the sample clock alone. -/
theorem clockRun_runTimer (n : Nat) (s : State) : ClockRun s (runTimer n s) := by
  induction n generalizing s with
  | zero => exact .done s
  | succ n ih => exact .timer (.entry (ih _))

theorem timerStep_eq_withClockOf (s : State) : timerStep s = s.withClockOf (timerStep s) := by
  unfold timerStep
  split <;> rfl

theorem tick_eq_withClockOf (s : State) : tick s = s.withClockOf (tick s) := by
  rcases pop_cases s with ⟨-, hpop⟩ | ⟨-, hpop⟩ <;>
    · rw [tick, hpop]
      rfl

theorem interruptEntry_eq_withClockOf (s : State) :
    interruptEntry s = s.withClockOf (interruptEntry s) := by
  unfold interruptEntry
  split
  · exact tick_eq_withClockOf { s with tf := false }
  · rfl

/-- The sample clock changes nothing but its own registers (R309, R310). -/
theorem ClockRun.eq_withClockOf {s t : State} (h : ClockRun s t) : t = s.withClockOf t := by
  induction h with
  | done s => rfl
  | timer _ ih =>
    rw [timerStep_eq_withClockOf] at ih
    exact ih
  | entry _ ih =>
    rw [interruptEntry_eq_withClockOf] at ih
    exact ih

/-- While `IE = 0` the sample clock pops and drives nothing (R259, R306). -/
theorem ClockRun.noTick {s t : State} (h : ClockRun s t) (hie : s.ie = false) : NoTick s t := by
  induction h with
  | done s => exact ⟨rfl, rfl, rfl⟩
  | timer _ ih => simpa [NoTick] using ih (by simpa using hie)
  | @entry s t _ ih =>
    rw [interruptEntry_of_not_due (by simp [interruptDue, hie])] at ih
    exact ih hie

/-! ### The sample clock does not see the command port -/

/-- `s` with the registers of the command port (R101, R24, R25), and the record of drawn timer steps, taken
from `p`. -/
def State.withPortOf (s p : State) : State :=
  { s with respStatus := p.respStatus, respValue := p.respValue, busy := p.busy, seq := p.seq,
           respValid := p.respValid, timerScript := p.timerScript, draws := p.draws }

theorem timerStep_withPortOf (s p : State) :
    timerStep (s.withPortOf p) = (timerStep s).withPortOf p := by
  by_cases h : s.tcnt = s.reloadActive
  · have hp : (s.withPortOf p).tcnt = (s.withPortOf p).reloadActive := h
    rw [timerStep, timerStep, if_pos h, if_pos hp]
    rfl
  · have hp : (s.withPortOf p).tcnt ≠ (s.withPortOf p).reloadActive := h
    rw [timerStep, timerStep, if_neg h, if_neg hp]
    rfl

theorem pop_withPortOf (s p : State) :
    pop (s.withPortOf p) = ((pop s).1, (pop s).2.withPortOf p) := by
  by_cases h : s.count.toNat > 0
  · have hp : (s.withPortOf p).count.toNat > 0 := h
    rw [pop, pop, if_pos h, if_pos hp]
    rfl
  · have hp : ¬ (s.withPortOf p).count.toNat > 0 := h
    rw [pop, pop, if_neg h, if_neg hp]

theorem tick_withPortOf (s p : State) : tick (s.withPortOf p) = (tick s).withPortOf p := by
  rw [tick, pop_withPortOf]
  rfl

theorem interruptEntry_withPortOf (s p : State) :
    interruptEntry (s.withPortOf p) = (interruptEntry s).withPortOf p := by
  have hdue : interruptDue (s.withPortOf p) = interruptDue s := rfl
  cases h : interruptDue s with
  | false => rw [interruptEntry_of_not_due h, interruptEntry_of_not_due (hdue.trans h)]
  | true =>
    rw [interruptEntry_of_due h, interruptEntry_of_due (hdue.trans h), ← tick_withPortOf]
    rfl

theorem runTimer_withPortOf (n : Nat) (s p : State) :
    runTimer n (s.withPortOf p) = (runTimer n s).withPortOf p := by
  induction n generalizing s with
  | zero => rfl
  | succ n ih => rw [runTimer, timerStep_withPortOf, interruptEntry_withPortOf, ih, runTimer]

theorem drawTimerSteps_withPortOf (s p : State) :
    (drawTimerSteps (s.withPortOf p)).2 = s.withPortOf (drawTimerSteps (s.withPortOf p)).2 := by
  unfold drawTimerSteps
  split <;> rfl

/-- The time before a segment is a run of the sample clock, whatever the command port holds. -/
theorem exists_clockRun_gap (s p : State) :
    ∃ u q, ClockRun s u ∧ gap (s.withPortOf p) = u.withPortOf q := by
  refine ⟨runTimer (drawTimerSteps (s.withPortOf p)).1 (interruptEntry s),
    (drawTimerSteps (s.withPortOf p)).2, .entry (clockRun_runTimer ..), ?_⟩
  rw [gap, drawTimerSteps_withPortOf, interruptEntry_withPortOf, runTimer_withPortOf]
  rfl

/-! ### Illegal words -/

/-- Acceptance writes at the command port alone (R111). -/
theorem acceptWord_eq_withPortOf (w : Word) (s : State) :
    acceptWord w s = s.withPortOf (acceptWord w s) := rfl

/-- What the step that accepts an illegal word does (R107, R111). -/
theorem step_of_isIllegal {s : State} {w : Word} {rest : List HostEvent} (hbusy : s.busy = false)
    (hhost : s.host = .offer w :: rest) (hw : IsIllegal w) :
    step s = .next (finish .illegal 0 (gap (acceptWord w { s with host := rest }))) := by
  obtain ⟨e, he⟩ := (decodeWord_error_iff w).mpr hw
  simp [step, hbusy, hhost, runWord, he, illegalCode]

/-- The response overwrites what the acceptance of the word left at the command port. -/
theorem finish_withPortOf (st : Status) (v : Word) (s p : State) :
    finish st v (s.withPortOf p) =
      { s.responded (statusCode st) v with timerScript := p.timerScript, draws := p.draws } := rfl

/-- A step that accepts an illegal word is a run of the sample clock, and then the response (ILLEGAL, 0). -/
theorem exists_clockRun_step_of_isIllegal {s : State} {w : Word} {rest : List HostEvent}
    (hbusy : s.busy = false) (hhost : s.host = .offer w :: rest) (hw : IsIllegal w) :
    ∃ (u : State) (script : List Nat) (draws : Nat), ClockRun { s with host := rest } u ∧
      step s = .next { u.responded 3 0 with timerScript := script, draws := draws } := by
  have hstep := step_of_isIllegal hbusy hhost hw
  rw [acceptWord_eq_withPortOf] at hstep
  obtain ⟨u, q, hrun, hgap⟩ :=
    exists_clockRun_gap { s with host := rest } (acceptWord w { s with host := rest })
  rw [hgap, finish_withPortOf] at hstep
  exact ⟨u, q.timerScript, q.draws, hrun, hstep⟩

/-- After a run of the sample clock and a response, only the clock and the response differ. -/
theorem ClockRun.responded_eq_withClockOf {s t u : State} (h : ClockRun s u) {st : BitVec 4} {v : Word}
    {script : List Nat} {draws : Nat}
    (ht : t = { u.responded st v with timerScript := script, draws := draws }) :
    t = (s.responded st v).withClockOf t := by
  subst ht
  conv_lhs => rw [h.eq_withClockOf]
  rfl

/-- Settles O4: the grounds are those of the decoder's arms; the step is a run of the sample clock between the
host's offer and the response. -/
theorem illegalWordsAnswerIllegal : Obligations.IllegalWordsAnswerIllegal := by
  refine ⟨decodeWord_error_iff, fun s w rest hbusy hhost hw => ?_⟩
  obtain ⟨u, script, draws, hrun, hstep⟩ := exists_clockRun_step_of_isIllegal hbusy hhost hw
  refine ⟨_, hstep, hrun.responded_eq_withClockOf rfl, hrun.noTick, u.responded 3 0, ?_, rfl⟩
  exact ⟨s, .done s, u, hrun, .done _⟩

end Machine

end Sys2Proof
end

section
/-! PUSH and POP, each a single ring operation (R133, R134). -/

namespace Sys2Proof

namespace Machine

/-! ### Ring indices and slots -/

/-- `mod(i + 1, C)` is below C, so the 16-bit index register holds it exactly (R37). -/
@[simp] theorem toNat_ringNext (cfg : Params) (i : BitVec 16) :
    (ringNext cfg i).toNat = slotAfter cfg i 1 := by
  have hlt : slotAfter cfg i 1 < cfg.bufCap := Nat.mod_lt _ cfg.bufCap_pos
  exact Nat.mod_eq_of_lt (hlt.trans_le cfg.bufCap_le)

/-- An index inside the ring names its own slot. -/
theorem slotAfter_zero {cfg : Params} {i : BitVec 16} (h : i.toNat < cfg.bufCap) :
    slotAfter cfg i 0 = i.toNat := Nat.mod_eq_of_lt h

/-- Once around the ring leads back to the slot of the start. -/
theorem slotAfter_bufCap {cfg : Params} {i : BitVec 16} (h : i.toNat < cfg.bufCap) :
    slotAfter cfg i cfg.bufCap = i.toNat :=
  (Nat.add_mod_right _ _).trans (Nat.mod_eq_of_lt h)

/-- A write to an index of the ring puts the byte into the ring storage (R70). -/
theorem ringWrite_of_lt {i : Nat} {s : State} (v : Byte) (h : i < s.cfg.bufCap) :
    ringWrite i v s = { s with rb := writeByte s.rb i v } := if_pos h

/-- A slot that was written is read as the stored byte (R70). -/
theorem ringRead_of_readByte {s : State} {i : Nat} {v : Byte} (h : readByte s.rb i = some v) :
    ringRead s i = v := by
  simp [ringRead, h]

/-! ### PUSH -/

/-- PUSH below capacity: the registers it writes and their values (R133). -/
theorem push_of_lt {s : State} (v : Byte) (hwr : s.wr.toNat < s.cfg.bufCap)
    (h : s.count.toNat < s.cfg.bufCap) :
    push v s = (true, { s with
      rb := writeByte s.rb s.wr.toNat v
      wr := ringNext s.cfg s.wr
      count := BitVec.ofNat 17 (s.count.toNat + 1) }) := by
  obtain ⟨-, hpush⟩ | ⟨hfull, -⟩ := push_cases v s
  · rw [hpush, ringWrite_of_lt v hwr]
  · omega

/-- PUSH at capacity is Rejected (R133). -/
theorem push_of_le {s : State} (v : Byte) (h : s.cfg.bufCap ≤ s.count.toNat) :
    push v s = (false, s) := by
  obtain ⟨hlt, -⟩ | ⟨-, hpush⟩ := push_cases v s
  · omega
  · exact hpush

/-- Below capacity the 17-bit `count` holds one more byte exactly (R37). -/
theorem toNat_count_succ {s : State} (h : s.count.toNat < s.cfg.bufCap) :
    (BitVec.ofNat 17 (s.count.toNat + 1)).toNat = s.count.toNat + 1 := by
  have hcap := s.cfg.bufCap_le
  exact Nat.mod_eq_of_lt (show s.count.toNat + 1 < 2 ^ 17 by omega)

/-- In a legal ring the slot after `wr` lies `count + 1` places after `rd` (R137). -/
theorem RingInv.slotAfter_wr {s : State} (h : RingInv s) :
    slotAfter s.cfg s.wr 1 = slotAfter s.cfg s.rd (s.count.toNat + 1) := by
  calc (s.wr.toNat + 1) % s.cfg.bufCap
      = ((s.rd.toNat + s.count.toNat) % s.cfg.bufCap + 1) % s.cfg.bufCap := by rw [h.wr_eq, slotAfter]
    _ = (s.rd.toNat + (s.count.toNat + 1)) % s.cfg.bufCap := Nat.mod_add_mod _ _ _

/-- In a legal ring with one slot free, the index after `wr` is `rd`. -/
theorem RingInv.ringNext_wr_eq_rd {s : State} (h : RingInv s) (hlast : s.count.toNat + 1 = s.cfg.bufCap) :
    ringNext s.cfg s.wr = s.rd := by
  apply BitVec.eq_of_toNat_eq
  rw [toNat_ringNext, h.slotAfter_wr, hlast, slotAfter_bufCap h.rd_lt]

/-- Settles O17: below capacity by the equation of an Accepted PUSH and the law of a read after a write; the
filling PUSH wraps `wr` onto `rd` because `wr` stands `count` places after it. -/
theorem pushContract : Obligations.PushContract := by
  intro s v hwr
  refine ⟨fun hlt => ?_, push_of_le v⟩
  rw [push_of_lt v hwr hlt]
  refine ⟨rfl, rfl, toNat_ringNext _ _, toNat_count_succ hlt, ?written, ?others, ?filled⟩
  case written =>
    rw [readByte_writeByte, if_pos rfl]
  case others =>
    intro a ha
    rw [readByte_writeByte, if_neg ha.symm]
  case filled =>
    exact fun hinv hlast => hinv.ringNext_wr_eq_rd hlast

/-! ### POP -/

/-- POP of a non-empty ring: its answer, the registers it writes and their values (R134). -/
theorem pop_of_pos {s : State} (h : 0 < s.count.toNat) :
    pop s = (some (ringRead s s.rd.toNat), { s with
      rd := ringNext s.cfg s.rd
      count := BitVec.ofNat 17 (s.count.toNat - 1) }) := by
  obtain ⟨-, hpop⟩ | ⟨hempty, -⟩ := pop_cases s
  · exact hpop
  · omega

/-- POP of an empty ring is Empty (R134). -/
theorem pop_of_eq_zero {s : State} (h : s.count.toNat = 0) : pop s = (none, s) := by
  obtain ⟨hpos, -⟩ | ⟨-, hpop⟩ := pop_cases s
  · omega
  · exact hpop

/-- The 17-bit `count` holds one byte fewer exactly. -/
theorem toNat_count_pred (s : State) :
    (BitVec.ofNat 17 (s.count.toNat - 1)).toNat = s.count.toNat - 1 :=
  Nat.mod_eq_of_lt (Nat.lt_of_le_of_lt (Nat.sub_le _ _) s.count.isLt)

/-- In a legal ring that is not empty the slot at `rd` has been written (R38, R39). -/
theorem RingInv.exists_readByte_rd {s : State} (h : RingInv s) (hpos : 0 < s.count.toNat) :
    ∃ v, readByte s.rb s.rd.toNat = some v := by
  have hwritten := h.written 0 hpos
  rw [slotAfter_zero h.rd_lt] at hwritten
  exact Option.isSome_iff_exists.mp hwritten

/-- Settles O18: by the equation of POP on a non-empty ring; in a legal ring the slot at `rd` is the first
buffered one, so what POP answers is a stored byte and not the free byte of an unwritten slot. -/
theorem popContract : Obligations.PopContract := by
  intro s
  refine ⟨fun hpos => ?_, pop_of_eq_zero⟩
  rw [pop_of_pos hpos]
  refine ⟨rfl, toNat_ringNext _ _, toNat_count_pred s, fun hinv => ?_⟩
  obtain ⟨v, hv⟩ := hinv.exists_readByte_rd hpos
  exact ⟨v, hv, congrArg some (ringRead_of_readByte hv)⟩

end Machine

end Sys2Proof
end

section
/-! APPLY_RATE's reload: its value as a function of the rate, and its frame (R182, R189). -/

namespace Sys2Proof

namespace Machine

/-! ### The clamp -/

/-- Between ordered bounds the clamp is a maximum of a minimum (R12). -/
theorem clampNat_eq_max_min {lo hi : Nat} (h : lo ≤ hi) (v : Nat) :
    clampNat v lo hi = max lo (min v hi) := by
  unfold clampNat
  split
  · omega
  · split <;> omega

/-! ### The rounded period -/

/-- Rounding half up stays at or below `k` exactly while `p1 / (q / 65536)` is below `k + 1/2` (R182). -/
theorem roundedPeriod_le_iff {q : Nat} (hq : 0 < q) (p1 k : Nat) :
    roundedPeriod p1 q ≤ k ↔ 2 * p1 * 65536 < (2 * k + 1) * q := by
  have hsplit : (k + 1) * (2 * q) = (2 * k + 1) * q + q := by ring
  rw [roundedPeriod, ← Nat.lt_succ_iff, Nat.div_lt_iff_lt_mul (by omega), Nat.succ_eq_add_one, hsplit]
  omega

/-- A larger rate gives a period that is smaller or equal (R189). -/
theorem roundedPeriod_antitone {q r : Nat} (p1 : Nat) (hq : 0 < q) (hqr : q ≤ r) :
    roundedPeriod p1 r ≤ roundedPeriod p1 q := by
  have hbelow := (roundedPeriod_le_iff hq p1 _).mp le_rfl
  exact (roundedPeriod_le_iff (hq.trans_le hqr) p1 _).mpr
    (hbelow.trans_le (Nat.mul_le_mul_left _ hqr))

/-- A quotient below 50 rounds to 50 at most (R189). -/
theorem roundedPeriod_le_periodMin {p1 q : Nat} (h : p1 * 65536 < 50 * q) :
    roundedPeriod p1 q ≤ Config.periodMin := by
  have hq : 0 < q := by omega
  rw [roundedPeriod_le_iff hq, Config.periodMin]
  linarith

/-- Rate 1.0 leaves the period as it is (R182). -/
theorem roundedPeriod_one (p1 : Nat) : roundedPeriod p1 65536 = p1 := by
  unfold roundedPeriod
  omega

/-! ### The reload -/

/-- The reload is the period within the counter's range, less one (R182). -/
theorem reloadOfPeriod_eq (p : Nat) : reloadOfPeriod p = max 50 (min p 65535) - 1 :=
  congrArg (· - 1) (clampNat_eq_max_min (by decide) p)

theorem reloadOfPeriod_mono {p p' : Nat} (h : p ≤ p') : reloadOfPeriod p ≤ reloadOfPeriod p' := by
  rw [reloadOfPeriod_eq, reloadOfPeriod_eq]
  omega

/-- Periods of 50 and less meet the floor (R189). -/
theorem reloadOfPeriod_of_le {p : Nat} (h : p ≤ Config.periodMin) : reloadOfPeriod p = 49 := by
  have hp : p ≤ 50 := h
  rw [reloadOfPeriod_eq]
  omega

theorem reloadOfPeriod_mem (p : Nat) : 49 ≤ reloadOfPeriod p ∧ reloadOfPeriod p ≤ 65534 := by
  rw [reloadOfPeriod_eq]
  omega

/-- Rate 1.0 gives back the base (R182). -/
theorem reloadOfRate_one {base : Nat} (hlo : 49 ≤ base) (hhi : base ≤ 65534) :
    reloadOfRate base 65536 = base := by
  rw [reloadOfRate, roundedPeriod_one, reloadOfPeriod_eq]
  omega

/-! ### APPLY_RATE -/

/-- The 16-bit `reloadReg` holds the reload exactly (R41). -/
theorem toNat_reloadReg_applyRate (s : State) :
    (applyRate.run s).2.reloadReg.toNat = reloadOfRate s.baseReload.toNat s.rateQ.toNat := by
  have hle : reloadOfRate s.baseReload.toNat s.rateQ.toNat ≤ 65534 := (reloadOfPeriod_mem _).2
  have hreg : (applyRate.run s).2.reloadReg
      = BitVec.ofNat 16 (reloadOfRate s.baseReload.toNat s.rateQ.toNat) := by simp
  rw [hreg]
  exact Nat.mod_eq_of_lt (show _ < 2 ^ 16 by omega)

/-- APPLY_RATE writes `reloadReg`, and nothing else but the sequencer and the sample clock moves (R182). -/
theorem applyRate_eq_withClockOf (s : State) :
    (applyRate.run s).2 = ({ s with
      seq := (applyRate.run s).2.seq,
      reloadReg := (applyRate.run s).2.reloadReg }).withClockOf (applyRate.run s).2 := by
  have hfields := applyRate_fields s
  generalize (applyRate.run s).2 = t at hfields
  cases t
  simp only at hfields
  simp [State.withClockOf, hfields]

/-- Settles O33: the reload is a monotone function of a period that falls with the rate. -/
theorem reloadRangeAndMonotone : Obligations.ReloadRangeAndMonotone := by
  refine ⟨fun _ _ => reloadOfPeriod_mem _, ?antitone, ?floor, by decide,
    fun _ hlo hhi => reloadOfRate_one hlo hhi,
    fun s => ⟨applyRate_eq_withClockOf s, toNat_reloadReg_applyRate s⟩⟩
  case antitone =>
    intro base q r hq hqr
    exact reloadOfPeriod_mono (roundedPeriod_antitone (base + 1) (by omega) hqr)
  case floor =>
    intro base q _ hlow
    exact reloadOfPeriod_of_le (roundedPeriod_le_periodMin hlow)

end Machine

end Sys2Proof
end

section
/-! ATTENUATE: its value at every level, its identities and its monotonicity (R211 to R213). -/

namespace Sys2Proof

namespace Machine

/-! ### The arithmetic shift -/

/-- The shift divides by a positive power, where floor division is Lean's `/`. -/
theorem asr_eq_ediv (v : Int) (s : Nat) : asr v s = v / 2 ^ s :=
  Int.fdiv_eq_ediv_of_nonneg v (by positivity)

@[simp] theorem asr_zero (v : Int) : asr v 0 = v := by simp [asr_eq_ediv]

@[simp] theorem zero_asr (s : Nat) : asr 0 s = 0 := by simp [asr_eq_ediv]

/-- The shift rounds toward minus infinity, so -1 never reaches 0 (R212). -/
@[simp] theorem neg_one_asr (s : Nat) : asr (-1) s = -1 := by
  rw [asr_eq_ediv, Int.neg_one_ediv, Int.sign_eq_one_of_pos (by positivity)]

theorem asr_mono {v w : Int} (h : v ≤ w) (s : Nat) : asr v s ≤ asr w s := by
  rw [asr_eq_ediv, asr_eq_ediv]
  exact Int.ediv_le_ediv (by positivity) h

theorem asr_add (v : Int) (s k : Nat) : asr v (s + k) = asr (asr v s) k := by
  simp only [asr_eq_ediv, pow_add]
  exact (Int.ediv_ediv_of_nonneg (by positivity)).symm

theorem natAbs_asr_le (v : Int) (s : Nat) : (asr v s).natAbs ≤ v.natAbs := by
  rw [asr_eq_ediv]
  exact Int.natAbs_ediv_le_natAbs v _

/-- A longer shift is a shorter one followed by another, which brings the value no further from 0. -/
theorem natAbs_asr_antitone {s r : Nat} (h : s ≤ r) (v : Int) :
    (asr v r).natAbs ≤ (asr v s).natAbs := by
  obtain ⟨k, rfl⟩ := Nat.exists_eq_add_of_le h
  rw [asr_add]
  exact natAbs_asr_le _ k

/-- The shift keeps the range of a centred sample, because it keeps the sign (R212). -/
theorem asr_mem_signedByte {v : Int} (hlo : -128 ≤ v) (hhi : v ≤ 127) (s : Nat) :
    -128 ≤ asr v s ∧ asr v s ≤ 127 := by
  have habs : (asr v s).natAbs ≤ v.natAbs := natAbs_asr_le v s
  obtain hneg | hnonneg : v ≤ -1 ∨ 0 ≤ v := by omega
  · have hshift : asr v s ≤ -1 := neg_one_asr s ▸ asr_mono hneg s
    omega
  · omega

/-! ### The value of ATTENUATE -/

/-- The clamp of R12 leaves a value between its bounds. -/
theorem clamp_of_mem {v lo hi : Int} (hlo : lo ≤ v) (hhi : v ≤ hi) : clamp v lo hi = v := by
  rw [clamp, if_neg (by omega), if_neg (by omega)]

/-- The byte holds a value of its range exactly. -/
theorem toNat_byteOfInt {v : Int} (hlo : 0 ≤ v) (hhi : v ≤ 255) :
    ((BitVec.ofInt 8 v).toNat : Int) = v := by
  rw [BitVec.toNat_ofInt]
  omega

theorem shiftOf_antitone {l₁ l₂ : Nat} (h : l₁ ≤ l₂) : shiftOf l₂ ≤ shiftOf l₁ :=
  Nat.div_le_div_right (Nat.sub_le_sub_left h _)

/-- At every level ATTENUATE shifts the centred sample: level 8 shifts by 0, and the clamp never takes
effect (R212). -/
theorem toNat_attenuate (x : Byte) (level : Nat) :
    ((attenuate x level).toNat : Int) = asr (x.toNat - 128) (shiftOf level) + 128 := by
  have hx : x.toNat < 256 := x.isLt
  unfold attenuate
  split
  case isTrue hmax =>
    have hshift : shiftOf level = 0 := by rw [hmax]; rfl
    rw [hshift, asr_zero]
    omega
  case isFalse =>
    obtain ⟨hlo, hhi⟩ := asr_mem_signedByte (v := x.toNat - 128) (by omega) (by omega) (shiftOf level)
    have hclamp : clamp (asr (x.toNat - 128) (shiftOf level) + 128) 0 255
        = asr (x.toNat - 128) (shiftOf level) + 128 := clamp_of_mem (by omega) (by omega)
    simp only [Config.center, hclamp]
    exact toNat_byteOfInt (by omega) (by omega)

/-- A sample whose centred value the shift keeps is returned as it is. -/
theorem attenuate_eq_self {x : Byte} {level : Nat}
    (h : asr (x.toNat - 128) (shiftOf level) = x.toNat - 128) : attenuate x level = x := by
  have hvalue := toNat_attenuate x level
  rw [h] at hvalue
  exact BitVec.eq_of_toNat_eq (by omega)

/-- Levels 7 and 8 shift by 0 (R211). -/
theorem attenuate_of_shiftOf_eq_zero {level : Nat} (h : shiftOf level = 0) (x : Byte) :
    attenuate x level = x :=
  attenuate_eq_self (by rw [h, asr_zero])

/-- The midpoint has the centred value 0. -/
theorem attenuate_center (level : Nat) : attenuate 128 level = 128 :=
  attenuate_eq_self (zero_asr _)

/-- The silence value has the centred value -1 (R212). -/
theorem attenuate_silence (level : Nat) : attenuate 127 level = 127 :=
  attenuate_eq_self (neg_one_asr _)

/-- A lower level shifts further, and so brings the output no further from the midpoint. -/
theorem natAbs_attenuate_mono (x : Byte) {l₁ l₂ : Nat} (h : l₁ ≤ l₂) :
    ((attenuate x l₁).toNat - 128 : Int).natAbs ≤ ((attenuate x l₂).toNat - 128 : Int).natAbs := by
  rw [toNat_attenuate, toNat_attenuate, add_sub_cancel_right, add_sub_cancel_right]
  exact natAbs_asr_antitone (shiftOf_antitone h) _

theorem attenuate_mono {x y : Byte} (h : x.toNat ≤ y.toNat) (level : Nat) :
    (attenuate x level).toNat ≤ (attenuate y level).toNat := by
  have hshift : asr (x.toNat - 128) (shiftOf level) ≤ asr (y.toNat - 128) (shiftOf level) :=
    asr_mono (by omega) _
  have hx := toNat_attenuate x level
  have hy := toNat_attenuate y level
  omega

/-- Settles O38: at every level ATTENUATE is the shift of the centred sample, and the shift fixes 0 and -1,
is monotone, and brings a value no further from 0 the longer it is. -/
theorem attenuateProperties : Obligations.AttenuateProperties :=
  ⟨fun x level _ => toNat_attenuate x level,
    fun x => ⟨attenuate_of_shiftOf_eq_zero rfl x, attenuate_of_shiftOf_eq_zero rfl x⟩,
    fun level _ => attenuate_center level,
    fun level _ => attenuate_silence level,
    fun x _ _ hlt _ => natAbs_attenuate_mono x hlt.le,
    fun _ _ level _ hxy => attenuate_mono hxy level⟩

end Machine

end Sys2Proof
end

section
/-! Commands in the wrong state: a test, and then `finish` (R254, R256, R261). -/

namespace Sys2Proof

namespace Machine

/-! ### Tests and responses behind the sample clock -/

/-- A run of the sample clock after another is one run. -/
theorem ClockRun.trans {s t u : State} (h : ClockRun s t) (k : ClockRun t u) : ClockRun s u := by
  induction h with
  | done _ => exact k
  | timer _ ih => exact .timer (ih k)
  | entry _ ih => exact .entry (ih k)

/-- A test is a run of the sample clock and a move of the sequencer, which stands at the command port. -/
theorem exists_clockRun_ask (test : State → Bool) (s : State) :
    ∃ u p, ClockRun s u ∧ ((Code.ask test).run s).2 = u.withPortOf p := by
  obtain ⟨u, q, hrun, hgap⟩ := exists_clockRun_gap s s
  refine ⟨u, advanceSeq (.flag (test (gap s))) (gap s), hrun, ?_⟩
  rw [Code.run_ask, show gap s = u.withPortOf q from hgap]
  rfl

/-- The last segment is a run of the sample clock, and then the response (R112). -/
theorem exists_clockRun_finish (st : Status) (v : Word) (s p : State) :
    ∃ (u : State) (script : List Nat) (draws : Nat), ClockRun s u ∧
      ((Code.finish st fun _ => v).run (s.withPortOf p)).2 =
        { u.responded (statusCode st) v with timerScript := script, draws := draws } := by
  obtain ⟨u, q, hrun, hgap⟩ := exists_clockRun_gap s p
  refine ⟨u, q.timerScript, q.draws, hrun, ?_⟩
  rw [Code.run_finish, advanceSeq_finish, hgap, finish_withPortOf]

/-- A response after a run of the sample clock is the only write. -/
theorem ClockRun.writesOnly_responded {s u : State} (h : ClockRun s u) (st : BitVec 4) (v : Word)
    (script : List Nat) (draws : Nat) :
    WritesOnly [fun u => u.responded st v] s
      { u.responded st v with timerScript := script, draws := draws } :=
  ⟨u.responded st v, ⟨u, h, .done _⟩, rfl⟩

/-- A command whose first test leads to `finish` at once only responds. -/
theorem exec_onlyResponds_of_ask {i : Instr} {test : State → Bool} {rest : Bool → Code Unit} {s : State}
    {st : Status} {v : Word} (hcode : commandCode i = (Code.ask test).bind rest)
    (hrest : rest (test (gap s)) = Code.finish st fun _ => v) :
    ∃ t, exec i s = .next t ∧ t = (s.responded (statusCode st) v).withClockOf t ∧
      (s.ie = false → NoTick s t) ∧ WritesOnly [fun u => u.responded (statusCode st) v] s t := by
  have hexec : exec i s =
      .next ((Code.finish st fun _ => v).run ((Code.ask test).run s).2).2 := by
    rw [exec_eq, hcode, Code.run_bind, ← hrest]
    rfl
  obtain ⟨a, p, hask, hasked⟩ := exists_clockRun_ask test s
  obtain ⟨u, script, draws, hfin, hfinished⟩ := exists_clockRun_finish st v a p
  have hrun : ClockRun s u := hask.trans hfin
  rw [hasked, hfinished] at hexec
  exact ⟨_, hexec, hrun.responded_eq_withClockOf rfl, hrun.noTick,
    hrun.writesOnly_responded _ _ script draws⟩

/-- Settles O48: no step of the sample clock moves `pstate`, so each command's test finds the state that the
command met, and `finish` follows. -/
theorem wrongStateCommandsOnlyRespond : Obligations.WrongStateCommandsOnlyRespond := by
  refine ⟨fun s mute hstate => ?pause, fun s hstate => ?resume, fun s hstate => ?update⟩
  case pause => exact exec_onlyResponds_of_ask (i := .pause mute) (st := .ok) rfl (by simp [hstate])
  case resume => exact exec_onlyResponds_of_ask (i := .resume) (st := .ok) rfl (by simp [hstate])
  case update => exact exec_onlyResponds_of_ask (i := .update) (st := .ok) rfl (by simp [hstate])

end Machine

end Sys2Proof
end

section
/-! The reset values (R340). -/

namespace Sys2Proof

namespace Machine

/-- BASE_PERIOD is the reload of the clock's quotient, so it lies in the reload's range (R180). -/
theorem basePeriod_mem (cfg : Params) (sr : Nat) : 49 ≤ basePeriod cfg sr ∧ basePeriod cfg sr ≤ 65534 :=
  reloadOfPeriod_mem _

/-- A 16-bit timer register holds BASE_PERIOD exactly (R40 to R42). -/
theorem toNat_ofNat_basePeriod (cfg : Params) (sr : Nat) :
    (BitVec.ofNat 16 (basePeriod cfg sr)).toNat = basePeriod cfg sr := by
  have hle := (basePeriod_mem cfg sr).2
  exact Nat.mod_eq_of_lt (show _ < 2 ^ 16 by omega)

/-- Settles O13: the reset state names each value, and BASE_PERIOD(0) fits the three 16-bit timer
registers. -/
theorem resetValues : Obligations.ResetValues := by
  have hperiod := toNat_ofNat_basePeriod Config.params 0
  simp [Obligations.ResetValues, State.reset, cmdReady, hperiod]

end Machine

end Sys2Proof
end

section
/-! The encoder and the decoder are inverse to each other (R102 to R105, R109), and the assembler's words
(R114, R115). -/

namespace Sys2Proof

open Machine

/-! ### The fields of a command word -/

/-- The opcode field of a command word is its opcode. -/
@[simp] theorem opcodeOf_commandWord (op : BitVec 4) (v : BitVec 28) :
    opcodeOf (commandWord op v) = op.toNat :=
  congrArg BitVec.toNat BitVec.extractLsb'_append_eq_left

/-- A field below the opcode is that field of the operand. -/
theorem extractLsb'_commandWord {lo n : Nat} (h : lo + n ≤ 28) (op : BitVec 4) (v : BitVec 28) :
    (commandWord op v).extractLsb' lo n = v.extractLsb' lo n :=
  BitVec.extractLsb'_append_eq_of_add_le h

/-- The operand field of a format holds the operand, and the reserved bits above it are zero (R102). -/
theorem extractLsb'_operand {n : Nat} (h : n ≤ 28) (op : BitVec 4) (x : BitVec n) :
    (commandWord op (x.setWidth 28)).extractLsb' 0 n = x ∧
      (commandWord op (x.setWidth 28)).extractLsb' n (28 - n) = 0 := by
  rw [extractLsb'_commandWord (by omega), extractLsb'_commandWord (by omega)]
  constructor <;> refine BitVec.eq_of_getLsbD_eq fun k hk => ?_
  · have hk28 : k < 28 := by omega
    simp [hk, hk28]
  · simp

/-- A command word is made of its opcode and its operand field, if its reserved bits are zero. -/
theorem commandWord_operand {w : Word} {op : BitVec 4} {n : Nat} (hn : n ≤ 28)
    (hop : opcodeOf w = op.toNat) (hres : w.extractLsb' n (28 - n) = 0) :
    commandWord op ((w.extractLsb' 0 n).setWidth 28) = w := by
  have hop' : w.extractLsb' 28 4 = op := BitVec.eq_of_toNat_eq hop
  subst hop'
  refine BitVec.eq_of_getLsbD_eq fun k hk => ?_
  simp only [commandWord, BitVec.getLsbD_append, BitVec.getLsbD_setWidth, BitVec.getLsbD_extractLsb']
  by_cases hlow : k < 28
  · by_cases hkn : k < n
    · simp [hlow, hkn]
    · have hbit := congrArg (·.getLsbD (k - n)) hres
      have hin : k - n < 28 - n := by omega
      have hadd : n + (k - n) = k := by omega
      simp only [BitVec.getLsbD_extractLsb', hin, hadd, decide_true, Bool.true_and] at hbit
      simp [hlow, hkn, hbit]
  · have hin : k - 28 < 4 := by omega
    have hadd : 28 + (k - 28) = k := by omega
    simp [hlow, hin, hadd]

/-! ### The arms of the decoder -/

/-- The decoder accepts a format whose operand field the encoder filled (R104). -/
theorem withReservedZero_operand {n : Nat} (h : n ≤ 28) (op : BitVec 4) (x : BitVec n) (i : Instr) :
    withReservedZero (commandWord op (x.setWidth 28)) n (28 - n) i = .ok i :=
  if_pos (extractLsb'_operand h op x).2

/-- What an arm of the decoder accepts has its reserved bits at zero (R104). -/
theorem withReservedZero_eq_ok {w : Word} {lo n : Nat} {i j : Instr}
    (h : withReservedZero w lo n i = .ok j) : w.extractLsb' lo n = 0 ∧ j = i := by
  unfold withReservedZero at h
  split at h
  · next hzero => exact ⟨hzero, (Except.ok.inj h).symm⟩
  · cases h

/-- The operand of one bit as a truth value. -/
theorem ofBool_getLsbD_zero (w : Word) : BitVec.ofBool (w.getLsbD 0) = w.extractLsb' 0 1 := by
  refine BitVec.eq_of_getLsbD_eq fun k hk => ?_
  obtain rfl : k = 0 := by omega
  simp

theorem getLsbD_zero_of_operand (op : BitVec 4) (b : Bool) :
    (commandWord op ((BitVec.ofBool b).setWidth 28)).getLsbD 0 = b := by
  have h := (extractLsb'_operand (by omega) op (BitVec.ofBool b)).1
  rw [← ofBool_getLsbD_zero] at h
  revert h
  cases b <;> cases (commandWord op _).getLsbD 0 <;> decide

/-- The two operand fields of format A are one field of 26 bits (R102). -/
theorem extractLsb'_append_extractLsb' (w : Word) :
    w.extractLsb' 24 2 ++ w.extractLsb' 0 24 = w.extractLsb' 0 26 := by
  refine BitVec.eq_of_getLsbD_eq fun k hk => ?_
  simp only [BitVec.getLsbD_append, BitVec.getLsbD_extractLsb']
  by_cases hlow : k < 24
  · simp [hlow, hk]
  · have hin : k - 24 < 2 := by omega
    have hadd : 24 + (k - 24) = k := by omega
    simp [hlow, hin, hadd, hk]

theorem extractLsb'_of_append {w : Word} {idx : BitVec 2} {v : BitVec 24}
    (h : w.extractLsb' 0 26 = idx ++ v) : w.extractLsb' 24 2 = idx ∧ w.extractLsb' 0 24 = v := by
  rw [← extractLsb'_append_extractLsb'] at h
  have hidx := congrArg (BitVec.extractLsb' 24 2) h
  have hv := congrArg (BitVec.extractLsb' 0 24) h
  simp only [BitVec.extractLsb'_append_eq_left, BitVec.extractLsb'_append_eq_right] at hidx hv
  exact ⟨hidx, hv⟩

/-! ### Decoding what was encoded -/

/-- The operands of a format are read back from their fields. -/
theorem decodeWord_encode (i : Instr) : decodeWord (encode i) = .ok i := by
  cases i with
  | nop => rfl
  | stop => rfl
  | resume => rfl
  | update => rfl
  | isPlaying => rfl
  | isPaused => rfl
  | getSampleRate => rfl
  | getBuffered => rfl
  | getLoop => rfl
  | begin sel => simp [decodeWord, encode, extractLsb'_operand, withReservedZero_operand (n := 8)]
  | play name => simp [decodeWord, encode, extractLsb'_operand, withReservedZero_operand (n := 16)]
  | pause mute =>
    simp only [decodeWord, encode, opcodeOf_commandWord, BitVec.reduceToNat, getLsbD_zero_of_operand]
    exact withReservedZero_operand (n := 1) (by decide) ..
  | setVolume v => simp [decodeWord, encode, extractLsb'_operand, withReservedZero_operand (n := 8)]
  | setRate q => simp [decodeWord, encode, extractLsb'_operand, withReservedZero_operand (n := 24)]
  | setArg idx v =>
    obtain ⟨hidx, hv⟩ := extractLsb'_of_append (extractLsb'_operand (by decide) 0x9 (idx ++ v)).1
    simp only [decodeWord, encode, opcodeOf_commandWord, BitVec.reduceToNat, hidx, hv]
    exact withReservedZero_operand (n := 26) (by decide) ..
  | setSpeedPulse p =>
    simp [decodeWord, encode, extractLsb'_operand, withReservedZero_operand (n := 16)]
  | setLoop b =>
    simp only [decodeWord, encode, opcodeOf_commandWord, BitVec.reduceToNat, getLsbD_zero_of_operand]
    exact withReservedZero_operand (n := 1) (by decide) ..

/-- Settles O1: each format's operand is read back from its field, and its reserved bits are zero. -/
theorem decodeOfEncode : Obligations.DecodeOfEncode := fun i _ => decodeWord_encode i

/-! ### Encoding what was decoded -/

/-- A format without operand: the opcode alone makes the word. -/
theorem commandWord_zero {w : Word} {op : BitVec 4} (hop : opcodeOf w = op.toNat)
    (hres : w.extractLsb' 0 28 = 0) : commandWord op 0 = w := by
  rw [← commandWord_operand (n := 0) (by decide) hop hres,
    Subsingleton.elim (w.extractLsb' 0 0) (0 : BitVec 0)]
  rfl

/-- Format S: the opcode and the selector make the word. -/
theorem commandWord_selector {w : Word} {op : BitVec 4} {sel : BitVec 4}
    (hop : opcodeOf w = op.toNat) (hsel : (w.extractLsb' 0 4).toNat = sel.toNat)
    (hres : w.extractLsb' 4 24 = 0) : commandWord op (sel.setWidth 28) = w := by
  rw [← BitVec.eq_of_toNat_eq hsel]
  exact commandWord_operand (by decide) hop hres

/-- The query that the decoder finds has the word it was found in. -/
theorem encode_of_decodeQuery {w : Word} {i : Instr} (hop : opcodeOf w = 0xC)
    (h : decodeQuery w = .ok i) : encode i = w := by
  unfold decodeQuery at h
  split at h
  case h_1 hsel =>
    obtain ⟨hres, rfl⟩ := withReservedZero_eq_ok h
    exact commandWord_selector (op := 0xC) (sel := 0) hop hsel hres
  case h_2 hsel =>
    obtain ⟨hres, rfl⟩ := withReservedZero_eq_ok h
    exact commandWord_selector (op := 0xC) (sel := 1) hop hsel hres
  case h_3 hsel =>
    obtain ⟨hres, rfl⟩ := withReservedZero_eq_ok h
    exact commandWord_selector (op := 0xC) (sel := 2) hop hsel hres
  case h_4 hsel =>
    obtain ⟨hres, rfl⟩ := withReservedZero_eq_ok h
    exact commandWord_selector (op := 0xC) (sel := 3) hop hsel hres
  case h_5 hsel =>
    obtain ⟨hres, rfl⟩ := withReservedZero_eq_ok h
    exact commandWord_selector (op := 0xC) (sel := 4) hop hsel hres
  case h_6 => cases h

/-- A command that the decoder finds is encoded as the word it was found in: opcode, operand and reserved
bits are all of the word. -/
theorem encode_of_decodeWord {w : Word} {i : Instr} (h : decodeWord w = .ok i) : encode i = w := by
  unfold decodeWord at h
  split at h
  case h_13 hop => exact encode_of_decodeQuery hop h
  case h_14 => cases h
  all_goals
    rename_i hop
    obtain ⟨hres, rfl⟩ := withReservedZero_eq_ok h
  case h_1 => exact commandWord_zero (op := 0x0) hop hres
  case h_2 => exact commandWord_operand (op := 0x1) (n := 8) (by decide) hop hres
  case h_3 => exact commandWord_operand (op := 0x2) (n := 16) (by decide) hop hres
  case h_4 => exact commandWord_zero (op := 0x3) hop hres
  case h_5 =>
    rw [encode, ofBool_getLsbD_zero]
    exact commandWord_operand (op := 0x4) (n := 1) (by decide) hop hres
  case h_6 => exact commandWord_zero (op := 0x5) hop hres
  case h_7 => exact commandWord_zero (op := 0x6) hop hres
  case h_8 => exact commandWord_operand (op := 0x7) (n := 8) (by decide) hop hres
  case h_9 => exact commandWord_operand (op := 0x8) (n := 24) (by decide) hop hres
  case h_10 =>
    rw [encode, extractLsb'_append_extractLsb']
    exact commandWord_operand (op := 0x9) (n := 26) (by decide) hop hres
  case h_11 => exact commandWord_operand (op := 0xA) (n := 16) (by decide) hop hres
  case h_12 =>
    rw [encode, ofBool_getLsbD_zero]
    exact commandWord_operand (op := 0xB) (n := 1) (by decide) hop hres

/-- Settles O2: each arm of the decoder reads every bit of the word, as opcode, operand or reserved zero. -/
theorem encodeOfDecode : Obligations.EncodeOfDecode := fun _ _ h => encode_of_decodeWord h

/-- Settles O5: each example word is decoded by evaluation. -/
theorem encodingExamplesDecode : Obligations.EncodingExamplesDecode := by
  unfold Obligations.EncodingExamplesDecode
  decide

/-! ### The assembler (R114, R115) -/

/-- A command word is its opcode's word with the operand in the bits below. -/
theorem commandWord_ofNat {n : Nat} (h : n < 2 ^ 28) (op : BitVec 4) :
    commandWord op (BitVec.ofNat 28 n) = commandWord op 0 ||| BitVec.ofNat 32 n := by
  refine BitVec.eq_of_getLsbD_eq fun k hk => ?_
  simp only [commandWord, BitVec.getLsbD_append, BitVec.getLsbD_or, BitVec.getLsbD_ofNat,
    hk]
  by_cases hlow : k < 28
  · simp [hlow]
  · have hbit : n.testBit k = false :=
      Nat.testBit_lt_two_pow (h.trans_le (Nat.pow_le_pow_right (by decide) (by omega)))
    simp [hlow, hbit]

/-- The same for an operand field of `m` bits, which holds the number exactly (R114: never truncated). -/
theorem commandWord_setWidth_ofNat {m n : Nat} (hm : m ≤ 28) (hn : n < 2 ^ m) (op : BitVec 4) :
    commandWord op ((BitVec.ofNat m n).setWidth 28) = commandWord op 0 ||| BitVec.ofNat 32 n := by
  have h28 : n < 2 ^ 28 := hn.trans_le (Nat.pow_le_pow_right (by decide) hm)
  rw [← commandWord_ofNat h28]
  congr 1
  apply BitVec.eq_of_toNat_eq
  simp [Nat.mod_eq_of_lt hn]

/-- Format A: the two operand fields side by side. -/
theorem commandWord_append_ofNat {idx v : Nat} (hidx : idx ≤ 3) (hv : v < 2 ^ 24) (op : BitVec 4) :
    commandWord op ((BitVec.ofNat 2 idx ++ BitVec.ofNat 24 v).setWidth 28) =
      commandWord op 0 ||| BitVec.ofNat 32 (idx * 16777216) ||| BitVec.ofNat 32 v := by
  have hfields : BitVec.ofNat 2 idx ++ BitVec.ofNat 24 v = BitVec.ofNat 26 (idx * 16777216 ||| v) := by
    refine BitVec.eq_of_getLsbD_eq fun k hk => ?_
    simp only [BitVec.getLsbD_append, BitVec.getLsbD_ofNat, Nat.testBit_or, hk,
      show idx * 16777216 = idx * 2 ^ 24 from rfl, Nat.testBit_mul_two_pow]
    by_cases hlow : k < 24
    · simp [hlow, show ¬ 24 ≤ k by omega]
    · have hbit : v.testBit k = false :=
        Nat.testBit_lt_two_pow (hv.trans_le (Nat.pow_le_pow_right (by decide) (by omega)))
      simp [hlow, hbit, show 24 ≤ k by omega, show k - 24 < 2 by omega]
  have hlt : idx * 16777216 ||| v < 2 ^ 26 := Nat.or_lt_two_pow (by omega) (by omega)
  rw [hfields, commandWord_setWidth_ofNat (by decide) hlt, BitVec.ofNat_or, BitVec.or_assoc]

/-- A line with operands in range gives the words of its commands, any other none (R114). -/
theorem assembleLine_eq_ite {l : AsmLine} {p : Prop} [Decidable p] {words : List Word}
    (hp : l.wellFormed = true ↔ p) (hw : p → (expandLine l).map encode = words) :
    assembleLine l = if p then some words else none := by
  unfold assembleLine
  by_cases h : p
  · rw [if_pos (hp.mpr h), if_pos h, hw h]
  · rw [if_neg (mt hp.mp h), if_neg h]

theorem wellFormed_rate_iff (r : RateOperand) : r.wellFormed = true ↔ r.toCode ≤ 16777215 := by
  simp only [RateOperand.wellFormed, decide_eq_true_eq]
  omega

/-- The words of SET_RATE, SET_ARG and SET_SPEED_PULSE for operands in range. -/
theorem encode_setRate_ofNat {n : Nat} (h : n ≤ 16777215) :
    encode (.setRate (BitVec.ofNat 24 n)) = 0x80000000 ||| BitVec.ofNat 32 n :=
  commandWord_setWidth_ofNat (m := 24) (by decide) (by omega) 0x8

theorem encode_setArg_ofNat {idx v : Nat} (hidx : idx ≤ 3) (hv : v ≤ 16777215) :
    encode (.setArg (BitVec.ofNat 2 idx) (BitVec.ofNat 24 v)) =
      0x90000000 ||| BitVec.ofNat 32 (idx * 16777216) ||| BitVec.ofNat 32 v :=
  commandWord_append_ofNat hidx (by omega) 0x9

theorem encode_setSpeedPulse_ofNat {n : Nat} (h : n ≤ 65535) :
    encode (.setSpeedPulse (BitVec.ofNat 16 n)) = 0xA0000000 ||| BitVec.ofNat 32 n :=
  commandWord_setWidth_ofNat (m := 16) (by decide) (by omega) 0xA

theorem encode_play_ofNat {n : Nat} (h : n ≤ 65535) :
    encode (.play (BitVec.ofNat 16 n)) = 0x20000000 ||| BitVec.ofNat 32 n :=
  commandWord_setWidth_ofNat (m := 16) (by decide) (by omega) 0x2

/-- The five words of SPEED_FROM_PULSE (R115). -/
theorem assembleLine_speedFromPulse (p lo hi : Nat) (a b : RateOperand) :
    assembleLine (.speedFromPulse p lo hi a b) =
      if p ≤ 65535 ∧ lo ≤ 65535 ∧ hi ≤ 65535 ∧ a.toCode ≤ 16777215 ∧ b.toCode ≤ 16777215 then
        some [0x90000000 ||| BitVec.ofNat 32 lo, 0x91000000 ||| BitVec.ofNat 32 hi,
          0x92000000 ||| BitVec.ofNat 32 a.toCode, 0x93000000 ||| BitVec.ofNat 32 b.toCode,
          0xA0000000 ||| BitVec.ofNat 32 p] else none := by
  refine assembleLine_eq_ite ?range fun ⟨hp, hlo, hhi, ha, hb⟩ => ?words
  case range =>
    simp [AsmLine.wellFormed, wellFormed_rate_iff, and_assoc]
  case words =>
    have hmin := encode_setArg_ofNat (idx := 0) (v := lo) (by decide) (by omega)
    have hmax := encode_setArg_ofNat (idx := 1) (v := hi) (by decide) (by omega)
    have hrMin := encode_setArg_ofNat (idx := 2) (by decide) ha
    have hrMax := encode_setArg_ofNat (idx := 3) (by decide) hb
    exact congrArg₂ _ hmin (congrArg₂ _ hmax (congrArg₂ _ hrMin (congrArg₂ _ hrMax
      (congrArg₂ _ (encode_setSpeedPulse_ofNat hp) rfl))))

/-- A decimal rate is rounded to the nearest code, ties up (R114). -/
theorem toCode_decimal_bounds (m d : Nat) :
    2 * 10 ^ d * (RateOperand.decimal m d).toCode ≤ 2 * m * 65536 + 10 ^ d ∧
      2 * m * 65536 + 10 ^ d < 2 * 10 ^ d * ((RateOperand.decimal m d).toCode + 1) := by
  have hpos : 0 < 2 * 10 ^ d := by positivity
  exact ⟨Nat.mul_div_le _ _, Nat.lt_mul_div_succ _ hpos⟩

/-- Settles O6: each line's operands, in range, fill the fields of its commands. -/
theorem assemblerWordsAndRanges : Obligations.AssemblerWordsAndRanges := by
  refine ⟨by decide, ?begin, ?play, ?pause, ?setVolume, ?setRate, ?setArg, ?setSpeedPulse, ?setLoop,
    ?query, assembleLine_speedFromPulse, ?playLooped, fun _ => rfl, toCode_decimal_bounds⟩
  case begin =>
    exact fun n => assembleLine_eq_ite (by simp [AsmLine.wellFormed]) fun h =>
      congrArg (fun w => [w]) (commandWord_setWidth_ofNat (m := 8) (by decide) (by omega) 0x1)
  case play =>
    exact fun n => assembleLine_eq_ite (by simp [AsmLine.wellFormed]) fun h =>
      congrArg (fun w => [w]) (encode_play_ofNat h)
  case pause =>
    refine fun n => assembleLine_eq_ite (by simp [AsmLine.wellFormed]) fun h => ?_
    obtain rfl | rfl : n = 0 ∨ n = 1 := by omega
    all_goals decide
  case setVolume =>
    exact fun n => assembleLine_eq_ite (by simp [AsmLine.wellFormed]) fun h =>
      congrArg (fun w => [w]) (commandWord_setWidth_ofNat (m := 8) (by decide) (by omega) 0x7)
  case setRate =>
    exact fun r => assembleLine_eq_ite (wellFormed_rate_iff r) fun h =>
      congrArg (fun w => [w]) (encode_setRate_ofNat h)
  case setArg =>
    exact fun idx v => assembleLine_eq_ite (by simp [AsmLine.wellFormed]; omega) fun ⟨hidx, hv⟩ =>
      congrArg (fun w => [w]) (encode_setArg_ofNat hidx hv)
  case setSpeedPulse =>
    exact fun n => assembleLine_eq_ite (by simp [AsmLine.wellFormed]) fun h =>
      congrArg (fun w => [w]) (encode_setSpeedPulse_ofNat h)
  case setLoop =>
    refine fun n => assembleLine_eq_ite (by simp [AsmLine.wellFormed]) fun h => ?_
    obtain rfl | rfl : n = 0 ∨ n = 1 := by omega
    all_goals decide
  case query =>
    refine fun n => assembleLine_eq_ite (by simp [AsmLine.wellFormed]) fun h => ?_
    obtain rfl | rfl | rfl | rfl | rfl : n = 0 ∨ n = 1 ∨ n = 2 ∨ n = 3 ∨ n = 4 := by omega
    all_goals decide
  case playLooped =>
    exact fun n => assembleLine_eq_ite (by simp [AsmLine.wellFormed]) fun h =>
      congrArg (fun w => [0xB0000001, w]) (encode_play_ofNat h)

end Sys2Proof
end

section
/-! The ring as a queue (R137, R138). -/

namespace Sys2Proof

namespace Machine

/-! ### Slots -/

/-- The slots after the next index are the next slots. -/
theorem slotAfter_ringNext (cfg : Params) (i : BitVec 16) (n : Nat) :
    slotAfter cfg (ringNext cfg i) n = slotAfter cfg i (n + 1) := by
  rw [slotAfter, toNat_ringNext, slotAfter, Nat.mod_add_mod, slotAfter, Nat.add_assoc, Nat.add_comm 1]

/-- Fewer than `C` places apart, two slots are the same only at the same place. -/
theorem slotAfter_inj {cfg : Params} {i : BitVec 16} {m n : Nat} (hm : m < cfg.bufCap)
    (hn : n < cfg.bufCap) (h : slotAfter cfg i m = slotAfter cfg i n) : m = n :=
  Nat.ModEq.eq_of_lt_of_lt (Nat.ModEq.add_left_cancel' _ h) hm hn

theorem slotAfter_lt (cfg : Params) (i : BitVec 16) (n : Nat) : slotAfter cfg i n < cfg.bufCap :=
  Nat.mod_lt _ cfg.bufCap_pos

/-! ### The ring invariant -/

/-- RING_RESET empties the ring, so the invariant asks nothing of its slots (R135, R137). -/
theorem ringInv_ringReset {s : State} (hwf : Memory.wf s.rb = true)
    (hlt : ∀ c ∈ s.rb, c.1 < s.cfg.bufCap) : RingInv (ringReset s) where
  count_le := Nat.zero_le _
  rd_lt := s.cfg.bufCap_pos
  wr_lt := s.cfg.bufCap_pos
  wr_eq := (slotAfter_zero (i := 0) s.cfg.bufCap_pos).symm
  written := fun n hn => absurd hn (Nat.not_lt_zero n)
  rb_wf := hwf
  rb_lt := hlt

/-- PUSH keeps the invariant: an Accepted one fills the slot at `wr`, the next after the buffered ones. -/
theorem RingInv.push {s : State} (h : RingInv s) (v : Byte) : RingInv (push v s).2 := by
  obtain hlt | hle := Nat.lt_or_ge s.count.toNat s.cfg.bufCap
  case inr => rwa [push_of_le v hle]
  case inl =>
    rw [push_of_lt v h.wr_lt hlt]
    have hcount := toNat_count_succ hlt
    constructor
    case count_le => exact hcount.trans_le hlt
    case rd_lt => exact h.rd_lt
    case wr_lt => exact (toNat_ringNext _ _).trans_lt (slotAfter_lt ..)
    case wr_eq => exact (toNat_ringNext _ _).trans (h.slotAfter_wr.trans (by rw [hcount]))
    case rb_wf => exact wf_writeByte _ h.rb_wf _ _
    case rb_lt =>
      intro c hc
      obtain rfl | hold := mem_writeByte hc
      · exact h.wr_lt
      · exact h.rb_lt c hold
    case written =>
      intro n hn
      rw [hcount] at hn
      simp only [readByte_writeByte]
      split
      · rfl
      · next hne =>
        refine h.written n (lt_of_le_of_ne (Nat.lt_succ_iff.mp hn) ?_)
        rintro rfl
        exact hne h.wr_eq

/-- POP keeps the invariant: the buffered slots but the first. -/
theorem RingInv.pop {s : State} (h : RingInv s) : RingInv (pop s).2 := by
  obtain hzero | hpos := Nat.eq_zero_or_pos s.count.toNat
  case inl => rwa [pop_of_eq_zero hzero]
  case inr =>
    rw [pop_of_pos hpos]
    have hcount := toNat_count_pred s
    have hsucc : s.count.toNat - 1 + 1 = s.count.toNat := Nat.sub_add_cancel hpos
    constructor
    case count_le => exact hcount.trans_le ((Nat.sub_le _ _).trans h.count_le)
    case rd_lt => exact (toNat_ringNext _ _).trans_lt (slotAfter_lt ..)
    case wr_lt => exact h.wr_lt
    case wr_eq => exact h.wr_eq.trans (by rw [hcount, slotAfter_ringNext, hsucc])
    case rb_wf => exact h.rb_wf
    case rb_lt => exact h.rb_lt
    case written =>
      intro n hn
      rw [hcount] at hn
      simp only [slotAfter_ringNext]
      exact h.written (n + 1) (by omega)

/-- A PUSH that is Rejected changes nothing. -/
theorem push_of_rejected {s : State} {v : Byte} (h : (push v s).1 = false) : (push v s).2 = s := by
  obtain ⟨-, hpush⟩ | ⟨-, hpush⟩ := push_cases v s
  · rw [hpush] at h
    cases h
  · rw [hpush]

/-- A POP that is Empty changes nothing. -/
theorem pop_of_none {s : State} (h : (pop s).1 = none) : (pop s).2 = s := by
  obtain ⟨-, hpop⟩ | ⟨-, hpop⟩ := pop_cases s
  · rw [hpop] at h
    cases h
  · rw [hpop]

/-- Settles O19: each operation moves the index that it should by one slot. -/
theorem ringInvariantPreserved : Obligations.RingInvariantPreserved :=
  ⟨fun _ hwf hlt => ringInv_ringReset hwf hlt, fun _ v h => h.push v, fun _ h => h.pop,
    fun _ _ => push_of_rejected, fun _ => pop_of_none⟩

/-! ### The queue -/

@[simp] theorem length_ringContents (s : State) : (ringContents s).length = s.count.toNat := by
  simp [ringContents]

/-- The buffered bytes depend only on the ring. -/
theorem ringContents_congr {s t : State} (hcfg : t.cfg = s.cfg) (hrd : t.rd = s.rd)
    (hcount : t.count = s.count) (hrb : t.rb = s.rb) : ringContents t = ringContents s := by
  simp [ringContents, ringRead, hcfg, hrd, hcount, hrb]

theorem ringContents_of_count_eq_zero {s : State} (h : s.count.toNat = 0) : ringContents s = [] := by
  simp [ringContents, h]

/-- An Accepted PUSH appends its byte: the slot it writes is none of the buffered ones. -/
theorem ringContents_push {s : State} (h : RingInv s) (v : Byte) (hlt : s.count.toNat < s.cfg.bufCap) :
    ringContents (push v s).2 = ringContents s ++ [v] := by
  rw [push_of_lt v h.wr_lt hlt]
  simp only [ringContents, ringRead, toNat_count_succ hlt, List.range_succ, List.map_append,
    List.map_singleton, readByte_writeByte]
  congr 1
  · refine List.map_congr_left fun n hn => ?_
    have hn : n < s.count.toNat := List.mem_range.mp hn
    have hne : s.wr.toNat ≠ slotAfter s.cfg s.rd n := fun heq =>
      absurd (slotAfter_inj hlt (hn.trans hlt) (h.wr_eq.symm.trans heq)) (by omega)
    rw [if_neg hne]
  · rw [if_pos h.wr_eq, Option.getD_some]

/-- POP takes the oldest byte. -/
theorem ringContents_pop {s : State} (hrd : s.rd.toNat < s.cfg.bufCap) (hpos : 0 < s.count.toNat) :
    ringContents s = ringRead s s.rd.toNat :: ringContents (pop s).2 := by
  obtain ⟨k, hk⟩ : ∃ k, s.count.toNat = k + 1 := ⟨s.count.toNat - 1, by omega⟩
  have hcount : (pop s).2.count.toNat = k := by
    rw [pop_of_pos hpos]
    exact (toNat_count_pred s).trans (by omega)
  rw [ringContents, ringContents, hcount, hk, pop_of_pos hpos]
  simp only [List.range_succ_eq_map, List.map_cons, List.map_map, slotAfter_zero hrd, slotAfter_ringNext]
  rfl

/-- Settles O20: PUSH writes the slot behind the buffered ones, POP reads the first of them. -/
theorem ringRefinesQueue : Obligations.RingRefinesQueue := by
  intro s h
  refine ⟨fun v hlt => ringContents_push h v hlt, fun v rest hcons => ?oldest, fun hnil => ?empty,
    ringContents_of_count_eq_zero rfl⟩
  case oldest =>
    have hpos : 0 < s.count.toNat := by
      rw [← length_ringContents, hcons]
      exact Nat.succ_pos _
    rw [ringContents_pop h.rd_lt hpos] at hcons
    obtain ⟨hv, hrest⟩ := List.cons.inj hcons
    exact ⟨by rw [pop_of_pos hpos, hv], hrest⟩
  case empty =>
    have hzero : s.count.toNat = 0 := by
      rw [← length_ringContents, hnil]
      rfl
    rw [pop_of_eq_zero hzero]
    exact ⟨rfl, hnil⟩

end Machine

end Sys2Proof
end

section
/-! BASE_PERIOD and the interpolated rate (R180, R187). -/

namespace Sys2Proof

namespace Machine

/-! ### BASE_PERIOD -/

/-- BASE_PERIOD as maxima and minima (R12, R180). -/
theorem basePeriod_eq (cfg : Params) (sr : Nat) :
    basePeriod cfg sr = max 50 (min (cfg.timerClkHz / max 4000 (min sr 32000)) 65535) - 1 := by
  rw [basePeriod, clampNat_eq_max_min (by decide), clampNat_eq_max_min (by decide)]
  rfl

/-- Settles O32: the inner clamp fixes the rates from 4000 to 32000, the outer one the quotients from 50 to
65535. -/
theorem basePeriodClamps : Obligations.BasePeriodClamps := by
  intro cfg sr
  obtain ⟨hlo, hhi⟩ := basePeriod_mem cfg sr
  refine ⟨hlo, hhi, fun h => ?_, fun h => ?_, fun h4 h32 => ?_, fun h4 h32 => ?_, fun h4 h32 => ?_⟩
  · rw [basePeriod_eq, basePeriod_eq, min_eq_left (h.trans (by decide)), max_eq_left h]
    rfl
  · rw [basePeriod_eq, basePeriod_eq, min_eq_right h]
    rfl
  all_goals
    rw [basePeriod_eq, min_eq_left h32, max_eq_right h4]
    omega

/-! ### The interpolated rate -/

/-- The clamp of R12 between ordered bounds. -/
theorem clamp_of_le {v lo hi : Int} (h : v ≤ lo) (hle : lo ≤ hi) : clamp v lo hi = lo := by
  unfold clamp
  split
  · rfl
  · rw [if_neg (by omega)]
    omega

theorem clamp_of_ge {v lo hi : Int} (h : hi ≤ v) (hle : lo ≤ hi) : clamp v lo hi = hi := by
  unfold clamp
  rw [if_neg (by omega)]
  split <;> omega

theorem clamp_mem {lo hi : Int} (hle : lo ≤ hi) (v : Int) : lo ≤ clamp v lo hi ∧ clamp v lo hi ≤ hi := by
  unfold clamp
  split
  · omega
  · split <;> omega

/-- The fraction in both directions of the range: numerator and denominator as for the rising one (R187). -/
theorem pulseRate_of_lt {lo hi : Int} (h : lo < hi) (p rMin rMax : Int) :
    pulseRate p lo hi rMin rMax = rateAtFraction rMin rMax (clamp (p - lo) 0 (hi - lo)) (hi - lo) := by
  rw [pulseRate, pulseFraction, if_neg (by omega), if_pos (by omega)]

theorem pulseRate_of_gt {lo hi : Int} (h : hi < lo) (p rMin rMax : Int) :
    pulseRate p lo hi rMin rMax = rateAtFraction rMin rMax (clamp (lo - p) 0 (lo - hi)) (lo - hi) := by
  rw [pulseRate, pulseFraction, if_neg (by omega), if_neg (by omega), neg_sub, neg_sub]

theorem pulseRate_of_eq {lo hi : Int} (h : lo = hi) (p rMin rMax : Int) :
    pulseRate p lo hi rMin rMax = rMin := by
  rw [pulseRate, pulseFraction, if_pos (by omega)]
  simp [rateAtFraction, tdiv]

@[simp] theorem rateAtFraction_zero (rMin rMax d : Int) : rateAtFraction rMin rMax 0 d = rMin := by
  simp [rateAtFraction, tdiv]

theorem rateAtFraction_self {d : Int} (h : 0 < d) (rMin rMax : Int) :
    rateAtFraction rMin rMax d d = rMax := by
  rw [rateAtFraction, tdiv, Int.mul_tdiv_cancel _ (by omega)]
  omega

/-- Truncation keeps a quotient by a positive number between 0 and its bound. -/
theorem tdiv_mem_of_nonneg {a d m : Int} (hd : 0 < d) (h0 : 0 ≤ a) (h : a ≤ m * d) :
    0 ≤ a.tdiv d ∧ a.tdiv d ≤ m := by
  rw [Int.tdiv_eq_ediv_of_nonneg h0]
  exact ⟨Int.ediv_nonneg h0 hd.le, Int.ediv_le_of_le_mul hd h⟩

/-- At a fraction of the range the rate lies between the ends (R187). -/
theorem rateAtFraction_mem {n d : Int} (hd : 0 < d) (h0 : 0 ≤ n) (h1 : n ≤ d) (rMin rMax : Int) :
    min rMin rMax ≤ rateAtFraction rMin rMax n d ∧ rateAtFraction rMin rMax n d ≤ max rMin rMax := by
  unfold rateAtFraction tdiv
  obtain hle | hge := le_total rMin rMax
  · obtain ⟨hlo, hhi⟩ := tdiv_mem_of_nonneg hd
      (mul_nonneg (sub_nonneg.mpr hle) h0) (mul_le_mul_of_nonneg_left h1 (sub_nonneg.mpr hle))
    omega
  · obtain ⟨hlo, hhi⟩ := tdiv_mem_of_nonneg hd
      (mul_nonneg (sub_nonneg.mpr hge) h0) (mul_le_mul_of_nonneg_left h1 (sub_nonneg.mpr hge))
    have hneg : (rMax - rMin) * n = -((rMin - rMax) * n) := by ring
    rw [hneg, Int.neg_tdiv]
    omega

/-- In both directions the rate is one at a fraction of the range. -/
theorem pulseRate_mem (p lo hi rMin rMax : Int) :
    min rMin rMax ≤ pulseRate p lo hi rMin rMax ∧ pulseRate p lo hi rMin rMax ≤ max rMin rMax := by
  obtain hlt | heq | hgt := lt_trichotomy lo hi
  · obtain ⟨h0, h1⟩ := clamp_mem (lo := 0) (hi := hi - lo) (by omega) (p - lo)
    rw [pulseRate_of_lt hlt]
    exact rateAtFraction_mem (by omega) h0 h1 _ _
  · rw [pulseRate_of_eq heq]
    omega
  · obtain ⟨h0, h1⟩ := clamp_mem (lo := 0) (hi := lo - hi) (by omega) (lo - p)
    rw [pulseRate_of_gt hgt]
    exact rateAtFraction_mem (by omega) h0 h1 _ _

/-- Settles O34: the fraction is clamped to the range, meets its ends there and is the pulse's distance
inside. -/
theorem pulseRateBetweenEnds : Obligations.PulseRateBetweenEnds := by
  intro p lo hi rMin rMax
  obtain ⟨hmin, hmax⟩ := pulseRate_mem p lo hi rMin rMax
  refine ⟨hmin, hmax, fun h => pulseRate_of_eq h .., ?lowUp, ?highUp, ?lowDown, ?highDown, ?inUp, ?inDown⟩
  case lowUp =>
    intro h hp
    rw [pulseRate_of_lt h, clamp_of_le (by omega) (by omega), rateAtFraction_zero]
  case highUp =>
    intro h hp
    rw [pulseRate_of_lt h, clamp_of_ge (by omega) (by omega), rateAtFraction_self (by omega)]
  case lowDown =>
    intro h hp
    rw [pulseRate_of_gt h, clamp_of_le (by omega) (by omega), rateAtFraction_zero]
  case highDown =>
    intro h hp
    rw [pulseRate_of_gt h, clamp_of_ge (by omega) (by omega), rateAtFraction_self (by omega)]
  case inUp =>
    intro h hp
    rw [pulseRate_of_lt (h.trans hp), clamp_of_mem (by omega) (by omega)]
    rfl
  case inDown =>
    intro h hp
    rw [pulseRate_of_gt (h.trans hp), clamp_of_mem (by omega) (by omega)]
    rfl

end Machine

end Sys2Proof
end

section
/-! The sample clock and its interrupt (R306 to R315), and the steps of an idle TPC (R86, R111). -/

namespace Sys2Proof

namespace Machine

open Host

/-! ### TICK and the interrupt -/

/-- TICK of an empty ring drives silence, which no level changes (R139, R212). -/
theorem tick_of_empty {s : State} (h : s.count.toNat = 0) : tick s = { s with duty := 127 } := by
  rw [tick, pop_of_eq_zero h]
  simp only [Option.getD_none, Config.silence, attenuate_silence]

/-- TICK of a ring that holds bytes pops one, attenuates it and drives it (R307). -/
theorem tick_of_pos {s : State} (h : 0 < s.count.toNat) :
    tick s = { s with
      rd := ringNext s.cfg s.rd
      count := BitVec.ofNat 17 (s.count.toNat - 1)
      duty := attenuate (ringRead s s.rd.toNat) s.volume.toNat } := by
  rw [tick, pop_of_pos h]
  rfl

/-- Settles O21: an Empty POP leaves silence to be driven, and every level keeps it. -/
theorem underrunDrivesSilence : Obligations.UnderrunDrivesSilence :=
  fun _ hcount _ => tick_of_empty (congrArg BitVec.toNat hcount)

/-- Settles O22: entry is TICK with `TF` clear, in its two cases. -/
theorem interruptEntryRunsTick : Obligations.InterruptEntryRunsTick := by
  intro s _
  have hdue : s.ie = true → s.tf = true → interruptDue s = true := fun hie htf => by
    simp [interruptDue, hie, htf]
  refine ⟨fun hoff => interruptEntry_of_not_due ?_, fun hie htf hcount => ?_, fun hie htf hpos => ?_⟩
  · obtain hie | htf := hoff
    · simp [interruptDue, hie]
    · simp [interruptDue, htf]
  · exact (interruptEntry_of_due (hdue hie htf)).trans (tick_of_empty (congrArg BitVec.toNat hcount))
  · exact (interruptEntry_of_due (hdue hie htf)).trans (tick_of_pos hpos)

/-! ### The timer's period -/

/-- Short of a boundary the timer counts (R310). -/
theorem timerStep_of_ne {s : State} (h : s.tcnt ≠ s.reloadActive) :
    timerStep s = { s with tcnt := BitVec.ofNat 16 (s.tcnt.toNat + 1) } := if_neg h

/-- At a boundary it starts again with the new reload (R310, R190). -/
theorem timerStep_of_eq {s : State} (h : s.tcnt = s.reloadActive) :
    timerStep s = { s with tcnt := 0, reloadActive := s.reloadReg, tf := true } := if_pos h

/-- From the start of a period the count is the number of steps, up to the reload. -/
theorem timerStep_iterate {s : State} (h : s.tcnt = 0) {n : Nat} (hn : n ≤ s.reloadActive.toNat) :
    timerStep^[n] s = { s with tcnt := BitVec.ofNat 16 n } := by
  induction n with
  | zero =>
    have hzero : BitVec.ofNat 16 0 = s.tcnt := h.symm
    rw [hzero]
    rfl
  | succ n ih =>
    have hlt : n < 2 ^ 16 := (Nat.lt_of_succ_le hn).trans s.reloadActive.isLt
    have hcount : (BitVec.ofNat 16 n).toNat = n := Nat.mod_eq_of_lt hlt
    have hne : BitVec.ofNat 16 n ≠ s.reloadActive := fun heq => by
      have hreload := congrArg BitVec.toNat heq
      omega
    rw [Function.iterate_succ_apply', ih (Nat.le_of_succ_le hn), timerStep_of_ne hne]
    simp only [hcount]

/-- Settles O23: the count reaches the reload after as many steps, and the next is the boundary. -/
theorem timerPeriodLength : Obligations.TimerPeriodLength := by
  intro s h
  refine ⟨fun n hn => timerStep_iterate h hn, ?_⟩
  have hend : BitVec.ofNat 16 s.reloadActive.toNat = s.reloadActive := by simp
  rw [Function.iterate_succ_apply', timerStep_iterate h le_rfl, timerStep_of_eq hend]

/-! ### The time between two segments -/

/-- Timer steps with the interrupt open leave none due (R306, R314(a)). -/
theorem interruptDue_runTimer (n : Nat) {s : State} (h : interruptDue s = false) :
    interruptDue (runTimer n s) = false := by
  induction n generalizing s with
  | zero => exact h
  | succ n ih => exact ih (interruptDue_interruptEntry _)

/-- The time between two segments is a run of the sample clock, and a draw from the script (log 5). -/
theorem exists_clockRun_gap_self (s : State) :
    ∃ u, ClockRun s u ∧
      gap s = { u with timerScript := (gap s).timerScript, draws := (gap s).draws } := by
  have hgap : gap s = (runTimer (drawTimerSteps s).1 (interruptEntry s)).withPortOf
      (drawTimerSteps s).2 := by
    have hdraw : (drawTimerSteps s).2 = s.withPortOf (drawTimerSteps s).2 :=
      drawTimerSteps_withPortOf s s
    conv_lhs => rw [gap, hdraw, interruptEntry_withPortOf, runTimer_withPortOf]
  refine ⟨_, .entry (clockRun_runTimer (drawTimerSteps s).1 _), ?_⟩
  rw [hgap]
  simp [State.withPortOf]

/-- Settles O24: entries follow each timer step, so none is left due. -/
theorem gapRunsTheClockAndTakesTheInterrupt : Obligations.GapRunsTheClockAndTakesTheInterrupt :=
  fun s => ⟨interruptDue_runTimer _ (interruptDue_interruptEntry _), exists_clockRun_gap_self s⟩

/-! ### The time inside a critical section -/

/-- No timer step clears `TF` (R310). -/
theorem timerStep_tf {s : State} (h : s.tf = true) : (timerStep s).tf = true := by
  unfold timerStep
  split
  · rfl
  · exact h

theorem holdTimer_tf (n : Nat) {s : State} (h : s.tf = true) : (holdTimer n s).tf = true := by
  induction n generalizing s with
  | zero => exact h
  | succ n ih => exact ih (timerStep_tf h)

/-- The timer does not see `IE` (R309, R310). -/
theorem timerStep_ie (s : State) (b : Bool) :
    timerStep { s with ie := b } = { timerStep s with ie := b } := by
  by_cases h : s.tcnt = s.reloadActive
  · rw [timerStep_of_eq h, timerStep_of_eq (s := { s with ie := b }) h]
  · rw [timerStep_of_ne h, timerStep_of_ne (s := { s with ie := b }) h]

theorem holdTimer_ie (n : Nat) (s : State) (b : Bool) :
    holdTimer n { s with ie := b } = { holdTimer n s with ie := b } := by
  induction n generalizing s with
  | zero => rfl
  | succ n ih => rw [holdTimer, timerStep_ie, ih, holdTimer]

theorem drawTimerSteps_ie (s : State) (b : Bool) :
    drawTimerSteps { s with ie := b } = ((drawTimerSteps s).1, { (drawTimerSteps s).2 with ie := b }) := by
  unfold drawTimerSteps
  cases s.timerScript <;> rfl

/-- A critical section does not see `IE` (R73). -/
theorem hold_ie (s : State) (b : Bool) : hold { s with ie := b } = { hold s with ie := b } := by
  rw [hold, drawTimerSteps_ie, holdTimer_ie, hold]

/-- A critical section changes the timer's registers and `TF` alone (R73). -/
theorem hold_eq (s : State) :
    hold s = { s with
      tcnt := (hold s).tcnt, reloadActive := (hold s).reloadActive, tf := (hold s).tf,
      timerScript := (hold s).timerScript, draws := (hold s).draws } := by
  have hfields := hold_fields s
  generalize hold s = t at hfields
  cases t
  simp only at hfields
  simp [hfields]

/-- Settles O25: the section's timer steps neither clear `TF` nor see `IE`. -/
theorem holdDefersTheInterrupt : Obligations.HoldDefersTheInterrupt :=
  fun s => ⟨hold_eq s, fun htf => holdTimer_tf _ (by simpa using htf), hold_ie s⟩

/-! ### Writes behind the sample clock -/

/-- A write that changes the sample clock's registers on its own, whatever else the state holds, and the
rest whatever they hold. -/
def ClockApart (w : State → State) : Prop :=
  ∀ u v : State, w (u.withClockOf v) = (w u).withClockOf (w v)

/-- What interleaved writes make of a state, but for the sample clock. -/
theorem Interleaved.eq_withClockOf {writes : List (State → State)} {s t : State}
    (h : Interleaved writes s t) (hw : ∀ w ∈ writes, ClockApart w) :
    t = (writes.foldl (fun u w => w u) s).withClockOf t := by
  have hfold : ∀ (ws : List (State → State)) (u v : State), (∀ w ∈ ws, ClockApart w) →
      ∃ x, ws.foldl (fun u w => w u) (u.withClockOf v) =
        (ws.foldl (fun u w => w u) u).withClockOf x := by
    intro ws
    induction ws with
    | nil => exact fun u v _ => ⟨v, rfl⟩
    | cons w ws ih =>
      intro u v hws
      rw [List.foldl_cons, List.foldl_cons, hws w List.mem_cons_self]
      exact ih _ _ fun x hx => hws x (List.mem_cons_of_mem _ hx)
  induction writes generalizing s with
  | nil => exact ClockRun.eq_withClockOf h
  | cons w rest ih =>
    obtain ⟨u, hrun, hrest⟩ := h
    have hrestApart : ∀ x ∈ rest, ClockApart x := fun x hx => hw x (List.mem_cons_of_mem _ hx)
    have ht := ih hrest hrestApart
    rw [hrun.eq_withClockOf, hw w List.mem_cons_self] at ht
    obtain ⟨x, hx⟩ := hfold rest (w s) (w u) hrestApart
    rw [hx] at ht
    exact ht

/-- What `WritesOnly` says of the frame: all but the sample clock is as the writes leave it. -/
theorem WritesOnly.eq_withClockOf {writes : List (State → State)} {s t : State}
    (h : WritesOnly writes s t) (hw : ∀ w ∈ writes, ClockApart w) :
    t = (writes.foldl (fun u w => w u) s).withClockOf t := by
  obtain ⟨u, hu, ht⟩ := h
  have hframe := hu.eq_withClockOf hw
  generalize writes.foldl (fun u w => w u) s = x at hframe ⊢
  calc t = { u with timerScript := t.timerScript, draws := t.draws } := ht
    _ = { x.withClockOf u with timerScript := t.timerScript, draws := t.draws } := by rw [← hframe]
    _ = x.withClockOf { u with timerScript := t.timerScript, draws := t.draws } := rfl
    _ = x.withClockOf t := by rw [← ht]

/-- A write that leaves the interrupt off, and the ring's read side and the output alone. -/
def TickFree (w : State → State) : Prop :=
  ∀ u : State, u.ie = false → (w u).ie = false ∧ NoTick u (w u)

/-- While `IE = 0`, what such writes leave alone stays, however the sample clock runs between them. -/
theorem Interleaved.noTick {writes : List (State → State)} {s t : State}
    (h : Interleaved writes s t) (hw : ∀ w ∈ writes, TickFree w) (hie : s.ie = false) :
    NoTick s t := by
  induction writes generalizing s with
  | nil => exact ClockRun.noTick h hie
  | cons w rest ih =>
    obtain ⟨u, hrun, hrest⟩ := h
    obtain ⟨hrd, hcount, hduty⟩ := hrun.noTick hie
    have hu : u.ie = false := by
      rw [hrun.eq_withClockOf]
      exact hie
    obtain ⟨hwie, hwrd, hwcount, hwduty⟩ := hw w List.mem_cons_self u hu
    obtain ⟨htrd, htcount, htduty⟩ := ih hrest (fun x hx => hw x (List.mem_cons_of_mem _ hx)) hwie
    exact ⟨htrd.trans (hwrd.trans hrd), htcount.trans (hwcount.trans hcount),
      htduty.trans (hwduty.trans hduty)⟩

theorem WritesOnly.noTick {writes : List (State → State)} {s t : State} (h : WritesOnly writes s t)
    (hw : ∀ w ∈ writes, TickFree w) (hie : s.ie = false) : NoTick s t := by
  obtain ⟨u, hu, ht⟩ := h
  rw [ht]
  exact hu.noTick hw hie

/-! ### The steps of an idle TPC -/

/-- What a step does, for each action of the host and for a running command (R314). -/
theorem step_of_busy {s : State} (h : s.busy = true) : step s = .next (runSegment s) := by
  simp only [step, h]

theorem step_of_offer {s : State} {w : Word} {rest : List HostEvent} (h : s.busy = false)
    (hhost : s.host = .offer w :: rest) : step s = runWord w { s with host := rest } := by
  simp only [step, h, hhost]

theorem step_of_accept {s : State} {w : Word} {rest : List HostEvent} (h : s.busy = false)
    (hhost : s.host = .accept w :: rest) : step s = .next (acceptWord w { s with host := rest }) := by
  simp only [step, h, hhost]

theorem step_of_moveCursor {s : State} {pos : Word} {rest : List HostEvent} (h : s.busy = false)
    (hhost : s.host = .moveCursor pos :: rest) :
    step s = .next (hostMoveCursor pos { s with host := rest }) := by
  simp only [step, h, hhost]

theorem step_of_wait {s : State} {rest : List HostEvent} (h : s.busy = false)
    (hhost : s.host = .wait :: rest) : step s = .next (passTime { s with host := rest }) := by
  simp only [step, h, hhost]

theorem step_of_nil {s : State} (h : s.busy = false) (hhost : s.host = []) :
    step s = .next (passTime s) := by
  simp only [step, h, hhost]

/-- Settles O7: acceptance is the write of the latched word. -/
theorem stepRunsDecodedWord : Obligations.StepRunsDecodedWord := by
  intro s w rest i hbusy hhost hi
  rw [step_of_offer hbusy hhost]
  simp only [runWord, hi]
  rfl

/-- Settles O10: the host's move is the one write. -/
theorem hostMovesCursorWhenIdle : Obligations.HostMovesCursorWhenIdle :=
  fun _ _ _ hbusy hhost => step_of_moveCursor hbusy hhost

/-- Time passing after a write of the host's list and of `resp_valid` is that write behind the sample
clock. -/
theorem writesOnly_gap (w : State → State) (s : State) : WritesOnly [w] s (gap (w s)) := by
  obtain ⟨u, hrun, hgap⟩ := exists_clockRun_gap_self (w s)
  exact ⟨u, ⟨s, .done s, hrun⟩, hgap⟩

/-- Settles O9: with nothing offered, `resp_valid` falls and the sample clock runs. -/
theorem timePassesWithoutCommand : Obligations.TimePassesWithoutCommand := by
  constructor
  · intro s hbusy hhost
    have hwrites := writesOnly_gap (fun u => { u with respValid := false }) s
    exact ⟨_, step_of_nil hbusy hhost, hwrites.eq_withClockOf (by simp [ClockApart, State.withClockOf]),
      hwrites.noTick (by simp [TickFree, NoTick]), hwrites⟩
  · intro s rest hbusy hhost
    have hwrites := writesOnly_gap (fun u => { u with host := rest, respValid := false }) s
    exact ⟨_, step_of_wait hbusy hhost, hwrites.eq_withClockOf (by simp [ClockApart, State.withClockOf]),
      hwrites.noTick (by simp [TickFree, NoTick]), hwrites⟩

end Machine

end Sys2Proof
end

section
/-! Commands as writes behind the sample clock (R111, R309, R314). -/

namespace Sys2Proof

namespace Machine

open Host

/-! ### Following a command's writes -/

/-- After the writes the sample clock may run on. -/
theorem Interleaved.clock {writes : List (State → State)} {s t u : State}
    (h : Interleaved writes s t) (hrun : ClockRun t u) : Interleaved writes s u := by
  induction writes generalizing s with
  | nil => exact ClockRun.trans h hrun
  | cons w rest ih =>
    obtain ⟨v, hv, hrest⟩ := h
    exact ⟨v, hv, ih hrest⟩

/-- One write more. -/
theorem Interleaved.write {writes : List (State → State)} {s t : State}
    (h : Interleaved writes s t) (w : State → State) : Interleaved (writes ++ [w]) s (w t) := by
  induction writes generalizing s with
  | nil => exact ⟨t, h, .done _⟩
  | cons x rest ih =>
    obtain ⟨v, hv, hrest⟩ := h
    exact ⟨v, hv, ih hrest⟩

/-- In the middle of a command: `t` is reached from `s` by these writes and the sample clock, but for the
command port, where the command's own course stands. -/
def Follows (writes : List (State → State)) (s t : State) : Prop :=
  ∃ u p, Interleaved writes s u ∧ t = u.withPortOf p

theorem Follows.refl (s : State) : Follows [] s s := ⟨s, s, .done s, rfl⟩

section

variable {writes : List (State → State)} {s t : State}

theorem Follows.gap (h : Follows writes s t) : Follows writes s (gap t) := by
  obtain ⟨u, p, hu, rfl⟩ := h
  obtain ⟨v, q, hrun, hgap⟩ := exists_clockRun_gap u p
  exact ⟨v, q, hu.clock hrun, hgap⟩

theorem holdTimer_withPortOf (n : Nat) (s p : State) :
    holdTimer n (s.withPortOf p) = (holdTimer n s).withPortOf p := by
  induction n generalizing s with
  | zero => rfl
  | succ n ih => rw [holdTimer, timerStep_withPortOf, ih, holdTimer]

theorem clockRun_holdTimer (n : Nat) (s : State) : ClockRun s (holdTimer n s) := by
  induction n generalizing s with
  | zero => exact .done s
  | succ n ih => exact .timer (ih _)

theorem Follows.hold (h : Follows writes s t) : Follows writes s (hold t) := by
  obtain ⟨u, p, hu, rfl⟩ := h
  refine ⟨_, (drawTimerSteps (u.withPortOf p)).2,
    hu.clock (clockRun_holdTimer (drawTimerSteps (u.withPortOf p)).1 u), ?_⟩
  rw [Machine.hold, drawTimerSteps_withPortOf, holdTimer_withPortOf]
  rfl

theorem Follows.advanceSeq (h : Follows writes s t) (a : Answer) :
    Follows writes s (advanceSeq a t) := by
  obtain ⟨u, p, hu, rfl⟩ := h
  exact ⟨u, Machine.advanceSeq a (u.withPortOf p), hu, rfl⟩

/-- A write `w` of the machine: what `f` does to `t`, it does at any command port. -/
theorem Follows.write (h : Follows writes s t) {f : State → State} (w : State → State)
    (hf : ∀ u p, t = u.withPortOf p → ∃ q, f t = (w u).withPortOf q) :
    Follows (writes ++ [w]) s (f t) := by
  obtain ⟨u, p, hu, ht⟩ := h
  obtain ⟨q, hq⟩ := hf u p ht
  exact ⟨w u, q, hu.write w, hq⟩

/-! ### Segments that write nothing -/

theorem Follows.ask (h : Follows writes s t) (test : State → Bool) :
    Follows writes s ((Code.ask test).run t).2 := h.gap.advanceSeq _

theorem Follows.number (h : Follows writes s t) (v : State → Nat) :
    Follows writes s ((Code.number v).run t).2 := h.gap.advanceSeq _

theorem Follows.integer (h : Follows writes s t) (x : Int) :
    Follows writes s ((Code.integer x).run t).2 := h.gap.advanceSeq _

theorem Follows.fraction (h : Follows writes s t) (x : Int × Int) :
    Follows writes s ((Code.fraction x).run t).2 := h.gap.advanceSeq _

theorem Follows.assign (h : Follows writes s t) :
    Follows writes s (Code.assign.run t).2 := h.gap.advanceSeq _

/-! ### Segments that write -/

theorem Follows.codeWrite (h : Follows writes s t) {f : State → State} (w : State → State)
    (hf : ∀ u p, Machine.gap t = u.withPortOf p → ∃ q, f (Machine.gap t) = (w u).withPortOf q) :
    Follows (writes ++ [w]) s ((Code.write f).run t).2 :=
  (h.gap.write w hf).advanceSeq _

theorem Follows.codeWhen (h : Follows writes s t) {test : State → Bool} {f : State → State}
    (w : State → State)
    (hf : ∀ u p, Machine.gap t = u.withPortOf p →
      ∃ q, (if test (Machine.gap t) then f (Machine.gap t) else Machine.gap t) = (w u).withPortOf q) :
    Follows (writes ++ [w]) s ((Code.when test f).run t).2 :=
  (h.gap.write (f := fun v => if test v then f v else v) w hf).advanceSeq _

/-- A critical section that writes `w`, whatever the state. -/
theorem Follows.codeAtomic (h : Follows writes s t) {f : State → State} (w : State → State)
    (hf : ∀ u p, ∃ q, f (u.withPortOf p) = (w u).withPortOf q) :
    Follows (writes ++ [w]) s ((Code.atomic f).run t).2 :=
  ((h.gap.hold.write w fun u p ht => by rw [ht]; exact hf u p).hold).advanceSeq _

/-- The last segment: the response overwrites what the command port held (R112). -/
theorem Follows.finish (h : Follows writes s t) (st : Status) (v : State → Word)
    (hv : ∀ u p : State, v (u.withPortOf p) = v u) :
    WritesOnly (writes ++ [fun u => u.responded (statusCode st) (v u)]) s
      ((Code.finish st v).run t).2 := by
  obtain ⟨u, p, hu, ht⟩ := h.gap
  refine ⟨u.responded (statusCode st) (v u), hu.write _, ?_⟩
  rw [Code.run_finish, advanceSeq_finish, ht, hv, finish_withPortOf]

end

/-! ### The frame of a command's writes -/

theorem clockApart_responded (st : BitVec 4) (v : Word) : ClockApart fun u => u.responded st v :=
  fun _ _ => rfl

theorem tickFree_responded (st : BitVec 4) (v : Word) : TickFree fun u => u.responded st v :=
  fun _ h => ⟨h, rfl, rfl, rfl⟩

/-- A command that makes one write and responds. -/
theorem exec_of_write {i : Instr} {s : State} {w : State → State} {st : BitVec 4} {v : Word}
    (hwrites : WritesOnly [w, fun u => u.responded st v] s ((commandCode i).run s).2)
    (hclock : ClockApart w) (htick : TickFree w) :
    ∃ t, exec i s = .next t ∧ t = ((w s).responded st v).withClockOf t ∧
      (s.ie = false → NoTick s t) ∧ WritesOnly [w, fun u => u.responded st v] s t :=
  ⟨_, exec_eq i s,
    hwrites.eq_withClockOf (by simpa using ⟨hclock, clockApart_responded st v⟩),
    hwrites.noTick (by simpa using ⟨htick, tickFree_responded st v⟩), hwrites⟩

/-- A command that makes two writes and responds. -/
theorem exec_of_writes {i : Instr} {s : State} {w x : State → State} {st : BitVec 4} {v : Word}
    (hwrites : WritesOnly [w, x, fun u => u.responded st v] s ((commandCode i).run s).2)
    (hclock : ClockApart w ∧ ClockApart x) (htick : TickFree w ∧ TickFree x) :
    ∃ t, exec i s = .next t ∧ t = ((x (w s)).responded st v).withClockOf t ∧
      (s.ie = false → NoTick s t) ∧ WritesOnly [w, x, fun u => u.responded st v] s t :=
  ⟨_, exec_eq i s,
    hwrites.eq_withClockOf (by simpa using ⟨hclock.1, hclock.2, clockApart_responded st v⟩),
    hwrites.noTick (by simpa using ⟨htick.1, htick.2, tickFree_responded st v⟩), hwrites⟩

/-- A command that only responds. -/
theorem exec_of_finish {i : Instr} {s : State} {st : Status} {v : State → Word} {x : Word}
    (hcode : commandCode i = Code.finish st v) (hv : v (gap s) = x) :
    ∃ t, exec i s = .next t ∧ t = (s.responded (statusCode st) x).withClockOf t ∧
      (s.ie = false → NoTick s t) ∧ WritesOnly [fun u => u.responded (statusCode st) x] s t := by
  have hrun : ((commandCode i).run s).2 = ((Code.finish st fun _ => x).run s).2 := by
    rw [hcode, Code.run_finish, Code.run_finish, hv]
  have hwrites := (Follows.refl s).finish st (fun _ => x) fun _ _ => rfl
  exact ⟨_, (exec_eq i s).trans (congrArg _ hrun),
    hwrites.eq_withClockOf (by simpa using clockApart_responded (statusCode st) x),
    hwrites.noTick (by simpa using tickFree_responded (statusCode st) x), hwrites⟩

/-! ### Commands of one register -/

/-- Settles O37: the segment before `finish` writes the register of the index. -/
theorem setArgWritesOneRegister : Obligations.SetArgWritesOneRegister := by
  intro s idx v
  let w : State → State := fun u => { u with
    arg0 := if idx = 0 then v else s.arg0, arg1 := if idx = 1 then v else s.arg1,
    arg2 := if idx = 2 then v else s.arg2, arg3 := if idx = 3 then v else s.arg3 }
  refine exec_of_write (w := w) ?_ (fun _ _ => rfl) fun _ h => ⟨h, rfl, rfl, rfl⟩
  refine ((Follows.refl s).codeWrite w fun u p hu => ⟨p, ?_⟩).finish .ok (fun _ => 0) fun _ _ => rfl
  have h0 : (gap s).arg0 = s.arg0 := by simp
  have h1 : (gap s).arg1 = s.arg1 := by simp
  have h2 : (gap s).arg2 = s.arg2 := by simp
  have h3 : (gap s).arg3 = s.arg3 := by simp
  rw [writeArg_cases, h0, h1, h2, h3, hu]
  rfl

/-- Settles O55: the segment before `finish` writes the flag. -/
theorem setLoopWritesTheFlag : Obligations.SetLoopWritesTheFlag := fun s b =>
  exec_of_write (w := writeLoopFlag b)
    (((Follows.refl s).codeWrite (writeLoopFlag b) fun u p hu => ⟨p, by rw [hu]; rfl⟩).finish .ok
      (fun _ => 0) fun _ _ => rfl)
    (fun _ _ => rfl) fun _ h => ⟨h, rfl, rfl, rfl⟩

/-- Settles O39: the critical section before `finish` writes the clamped level, which 4 bits hold. -/
theorem setVolumeClamps : Obligations.SetVolumeClamps := by
  intro s v
  obtain ⟨t, hexec, hframe, htick, hwrites⟩ := exec_of_write (i := .setVolume v) (w := writeVolume v)
    (((Follows.refl s).codeAtomic (writeVolume v) fun u p => ⟨p, rfl⟩).finish .ok (fun _ => 0)
      fun _ _ => rfl)
    (fun _ _ => rfl) fun _ h => ⟨h, rfl, rfl, rfl⟩
  have hvolume : t.volume = BitVec.ofNat 4 (min v.toNat 8) := by
    rw [hframe]
    rfl
  have hlt : min v.toNat 8 < 2 ^ 4 := by omega
  refine ⟨t, hexec, ?_, ?_, htick, ?_⟩
  · rw [hvolume]
    exact Nat.mod_eq_of_lt hlt
  · rw [hvolume]
    exact hframe
  · rw [hvolume]
    exact hwrites

/-! ### Commands that only respond -/

/-- Settles O59: the one segment reads the register, which the sample clock does not move, and responds. -/
theorem queriesAnswerTheirRegister : Obligations.QueriesAnswerTheirRegister := fun s =>
  ⟨exec_of_finish (i := .isPlaying) (st := .ok) rfl (by simp [boolValue]),
    exec_of_finish (i := .isPaused) (st := .ok) rfl (by simp [boolValue]),
    exec_of_finish (i := .getSampleRate) (st := .ok) rfl (by simp),
    exec_of_finish (i := .getLoop) (st := .ok) rfl (by simp [boolValue])⟩

/-- Settles O60: the count that the response takes is the one the last run of the sample clock left. -/
theorem getBufferedAnswersTheOccupancy : Obligations.GetBufferedAnswersTheOccupancy := by
  intro s
  obtain ⟨t, hexec, hframe, htick, -⟩ := exec_of_finish (i := .getBuffered) (s := s) rfl rfl
  have ht : t = finish .ok ((gap s).count.setWidth 32) (gap s) :=
    (Outcome.next.inj (hexec.symm.trans (exec_eq .getBuffered s)))
  have hcount : t.respValue = t.count.setWidth 32 := by
    rw [ht]
    rfl
  have hvalue : t.respValue = (gap s).count.setWidth 32 := by
    rw [ht]
    rfl
  refine ⟨t, hexec, ?_, ?_, htick, ?_⟩
  · rw [hcount, BitVec.toNat_setWidth]
    exact Nat.mod_eq_of_lt (t.count.isLt.trans (by decide))
  · rw [hvalue]
    exact hframe
  · rw [ht]
    exact (Follows.refl s).finish .ok (fun u => u.count.setWidth 32) fun _ _ => rfl

/-- Settles O40: the response after one run of the sample clock. -/
theorem nopOnlyResponds : Obligations.NopOnlyResponds := by
  intro s
  obtain ⟨u, script, draws, hrun, ht⟩ := exists_clockRun_finish .ok 0 s s
  have hexec : exec .nop s = .next { u.responded 0 0 with timerScript := script, draws := draws } :=
    (exec_eq .nop s).trans (congrArg _ ht)
  exact ⟨_, hexec, hrun.responded_eq_withClockOf rfl, u, hrun, rfl⟩

/-! ### Commands that write the reload -/

/-- APPLY_RATE writes the reload of the rate in force (R182). -/
theorem Follows.applyRate {writes : List (State → State)} {s t : State} (h : Follows writes s t) :
    Follows (writes ++ [writeReload (reloadOfRate t.baseReload.toNat t.rateQ.toNat)]) s
      (applyRate.run t).2 := by
  have hsegments := (((h.number fun u => u.baseReload.toNat + 1).number fun u =>
    roundedPeriod (t.baseReload.toNat + 1) u.rateQ.toNat).number fun _ =>
    reloadOfRate t.baseReload.toNat t.rateQ.toNat).codeAtomic
    (f := writeReload (reloadOfRate t.baseReload.toNat t.rateQ.toNat))
    (writeReload (reloadOfRate t.baseReload.toNat t.rateQ.toNat)) fun u p => ⟨p, rfl⟩
  simpa [Machine.applyRate, reloadOfRate] using hsegments

/-- CLAMP_RATE as a maximum of a minimum (R183). -/
theorem toNat_clampRate (x : Int) : (clampRate x : Int) = max 19661 (min x 196608) := by
  have hcast : ((clampRate x : Nat) : Int) = clamp x 19661 196608 :=
    Int.toNat_of_nonneg (le_trans (by decide) (clamp_mem (by decide) x).1)
  rw [hcast, clamp]
  omega

/-- 24 bits hold the clamped rate (R30). -/
theorem toNat_ofNat_clampRate (x : Int) : (BitVec.ofNat 24 (clampRate x)).toNat = clampRate x := by
  have hle := toNat_clampRate x
  exact Nat.mod_eq_of_lt (show _ < 2 ^ 24 by omega)

/-- 16 bits hold the reload (R41). -/
theorem toNat_ofNat_reloadOfRate (base q : Nat) :
    (BitVec.ofNat 16 (reloadOfRate base q)).toNat = reloadOfRate base q := by
  have hle : reloadOfRate base q ≤ 65534 := (reloadOfPeriod_mem _).2
  exact Nat.mod_eq_of_lt (show _ < 2 ^ 16 by omega)

/-- A command that stores a rate and applies it (R184, R187). -/
theorem exec_of_rateWrite {i : Instr} {s a : State} {x : Int} (hfollows : Follows [] s a)
    (hbase : a.baseReload = s.baseReload)
    (hrun : ((commandCode i).run s).2 = ((Code.finish .ok fun _ => 0).run
      (applyRate.run ((Code.write (writeRate x)).run a).2).2).2) :
    ∃ t, exec i s = .next t ∧ (t.rateQ.toNat : Int) = max 19661 (min x 196608) ∧
      t.reloadReg.toNat = reloadOfRate s.baseReload.toNat t.rateQ.toNat ∧
      t = (({ s with rateQ := t.rateQ, reloadReg := t.reloadReg }).responded 0 0).withClockOf t ∧
      (s.ie = false → NoTick s t) ∧
      WritesOnly [fun u => { u with rateQ := t.rateQ }, fun u => { u with reloadReg := t.reloadReg },
        fun u => u.responded 0 0] s t := by
  have hstored := hfollows.codeWrite (f := writeRate x) (writeRate x) fun u p hu => ⟨p, by rw [hu]; rfl⟩
  have hwrites := hstored.applyRate.finish .ok (fun _ => 0) fun _ _ => rfl
  rw [← hrun] at hwrites
  obtain ⟨t, hexec, hframe, htick, hwrites⟩ := exec_of_writes hwrites ⟨fun _ _ => rfl, fun _ _ => rfl⟩
    ⟨fun _ h => ⟨h, rfl, rfl, rfl⟩, fun _ h => ⟨h, rfl, rfl, rfl⟩⟩
  have hrate : t.rateQ = BitVec.ofNat 24 (clampRate x) := by
    rw [hframe]
    rfl
  have hreload : t.reloadReg = BitVec.ofNat 16 (reloadOfRate
      ((Code.write (writeRate x)).run a).2.baseReload.toNat
      ((Code.write (writeRate x)).run a).2.rateQ.toNat) := by
    rw [hframe]
    rfl
  have hvalue : reloadOfRate ((Code.write (writeRate x)).run a).2.baseReload.toNat
      ((Code.write (writeRate x)).run a).2.rateQ.toNat =
        reloadOfRate s.baseReload.toNat t.rateQ.toNat := by
    simp [hbase, hrate]
  refine ⟨t, hexec, ?rate, ?reload, ?frame, htick, ?writes⟩
  case rate => rw [hrate, toNat_ofNat_clampRate, toNat_clampRate]
  case reload => rw [hreload, toNat_ofNat_reloadOfRate, hvalue]
  case frame =>
    rw [hrate, hreload]
    exact hframe
  case writes =>
    rw [hrate, hreload]
    exact hwrites

/-- Settles O35: the rate is stored clamped, and applied as stored. -/
theorem setRateStoresAndApplies : Obligations.SetRateStoresAndApplies := by
  intro s q
  obtain ⟨t, hexec, hrate, hrest⟩ :=
    exec_of_rateWrite (i := .setRate q) (x := q.toNat) (Follows.refl s) rfl rfl
  exact ⟨t, hexec, by omega, hrest⟩

/-- The segments of SET_SPEED_PULSE that compute the rate (R187). -/
def pulseRateCode (p : BitVec 16) : Code Int :=
  (Code.number fun s => (s.arg0.setWidth 16).toNat).bind fun lo =>
  (Code.number fun s => (s.arg1.setWidth 16).toNat).bind fun hi =>
  (Code.number fun s => s.arg2.toNat).bind fun rMin =>
  (Code.number fun s => s.arg3.toNat).bind fun rMax =>
  (Code.integer (hi - lo)).bind fun den =>
  (Code.integer (p.toNat - lo)).bind fun num =>
  (Code.fraction (pulseFraction num den)).bind fun t =>
  Code.integer (rateAtFraction rMin rMax t.1 t.2)

theorem setSpeedPulseCode_eq (p : BitVec 16) :
    setSpeedPulseCode p = (pulseRateCode p).bind fun x =>
      (Code.write (writeRate x)).andThen <| applyRate.andThen <| Code.finish .ok fun _ => 0 := rfl

/-- The rate that they answer, from registers that the sample clock does not write. -/
theorem pulseRateCode_answer (p : BitVec 16) (s : State) :
    ((pulseRateCode p).run s).1 = pulseRate p.toNat (s.arg0.toNat % 65536 : Nat)
      (s.arg1.toNat % 65536 : Nat) s.arg2.toNat s.arg3.toNat := by
  simp [pulseRateCode, pulseRate]

theorem pulseRateCode_follows (p : BitVec 16) (s : State) :
    Follows [] s ((pulseRateCode p).run s).2 := by
  simp only [pulseRateCode, Code.run_bind]
  exact ((((((((Follows.refl s).number _).number _).number _).number _).integer _).integer _).fraction
    _).integer _

/-- Settles O36: the segments before the store only compute. -/
theorem setSpeedPulseStoresAndApplies : Obligations.SetSpeedPulseStoresAndApplies := by
  intro s p
  refine exec_of_rateWrite (i := .setSpeedPulse p) (pulseRateCode_follows p s) ?_ ?_
  · simp [pulseRateCode]
  · rw [← pulseRateCode_answer, commandCode, setSpeedPulseCode_eq, Code.run_bind, Code.run_andThen,
      Code.run_andThen]

end Machine

end Sys2Proof
end

section
/-! BEGIN, STOP, PAUSE, RESUME, and UPDATE at the end of a stream (R232, R251, R254 to R258). -/

namespace Sys2Proof

namespace Machine

open Host

/-! ### Intervals in which no TICK is taken -/

theorem Quiet.exists_cons {n : Nat} {s : State} (h : Quiet (n + 1) s) :
    ∃ rest, s.timerScript = 0 :: rest ∧ Quiet n { s with timerScript := rest } := by
  obtain ⟨hlen, hzero⟩ := h
  cases hscript : s.timerScript with
  | nil => simp [hscript] at hlen
  | cons k rest =>
    rw [hscript] at hlen hzero
    obtain rfl : k = 0 := hzero k (by simp)
    exact ⟨rest, rfl, Nat.le_of_succ_le_succ hlen, fun j hj => hzero j (by simp [hj])⟩

/-- `Quiet` depends on the script alone. -/
theorem Quiet.congr {n : Nat} {s t : State} (h : Quiet n s) (hscript : t.timerScript = s.timerScript) :
    Quiet n t := by
  simpa [Quiet, hscript] using h

/-- An interval without timer steps in which no interrupt is due changes only the script. -/
theorem gap_of_quiet {n : Nat} {s : State} (h : Quiet (n + 1) s) (hdue : interruptDue s = false) :
    gap s = { s with timerScript := s.timerScript.tail } ∧ Quiet n (gap s) := by
  obtain ⟨rest, hscript, hrest⟩ := h.exists_cons
  have hdraw : drawTimerSteps s = (0, { s with timerScript := rest }) := by
    simp only [drawTimerSteps, hscript]
  have hgap : gap s = { s with timerScript := rest } := by
    rw [gap, hdraw]
    exact interruptEntry_of_not_due hdue
  rw [hgap, hscript]
  exact ⟨rfl, hrest⟩

theorem hold_of_quiet {n : Nat} {s : State} (h : Quiet (n + 1) s) :
    hold s = { s with timerScript := s.timerScript.tail } ∧ Quiet n (hold s) := by
  obtain ⟨rest, hscript, hrest⟩ := h.exists_cons
  have hdraw : drawTimerSteps s = (0, { s with timerScript := rest }) := by
    simp only [drawTimerSteps, hscript]
  have hhold : hold s = { s with timerScript := rest } := by
    rw [hold, hdraw]
    rfl
  rw [hhold, hscript]
  exact ⟨rfl, hrest⟩

/-- No TICK is taken in the next `n` intervals: the interrupt is off, or none is pending and no timer step
falls. -/
def Calm (n : Nat) (s : State) : Prop := s.ie = false ∨ (s.tf = false ∧ Quiet n s)

/-- What `Calm` depends on. -/
theorem Calm.congr {n : Nat} {s t : State} (h : Calm n s) (hie : t.ie = s.ie) (htf : t.tf = s.tf)
    (hscript : t.timerScript = s.timerScript) : Calm n t := by
  simpa [Calm, Quiet, hie, htf, hscript] using h

theorem gap_of_calm {n : Nat} {s : State} (h : Calm (n + 1) s) : NoTick s (gap s) ∧ Calm n (gap s) := by
  obtain hie | ⟨htf, hquiet⟩ := h
  · exact ⟨gap_noTick s hie, .inl (by simpa using hie)⟩
  · obtain ⟨hgap, hrest⟩ := gap_of_quiet hquiet (by simp [interruptDue, htf])
    have htf' : (gap s).tf = false := by
      rw [hgap]
      exact htf
    exact ⟨by rw [hgap]; exact ⟨rfl, rfl, rfl⟩, .inr ⟨htf', hrest⟩⟩

theorem hold_of_calm {n : Nat} {s : State} (h : Calm (n + 1) s) : Calm n (hold s) := by
  obtain hie | ⟨htf, hquiet⟩ := h
  · exact .inl (by simpa using hie)
  · obtain ⟨hhold, hrest⟩ := hold_of_quiet hquiet
    have htf' : (hold s).tf = false := by
      rw [hhold]
      exact htf
    exact .inr ⟨htf', hrest⟩

/-! ### The ring's read side -/

/-- A write that leaves the ring's read side alone and does not enable the interrupt. -/
def RingFree (w : State → State) : Prop :=
  ∀ u : State, (w u).rd = u.rd ∧ (w u).count = u.count ∧ (u.ie = false → (w u).ie = false)

/-- With the interrupt off, or nothing buffered, the sample clock pops nothing (R306, R134). -/
theorem ClockRun.ringKept {s t : State} (h : ClockRun s t) (hs : s.ie = false ∨ s.count = 0) :
    t.rd = s.rd ∧ t.count = s.count := by
  induction h with
  | done _ => exact ⟨rfl, rfl⟩
  | timer _ ih => simpa using ih (by simpa using hs)
  | @entry s t _ ih =>
    cases hdue : interruptDue s with
    | false =>
      rw [interruptEntry_of_not_due hdue] at ih
      exact ih hs
    | true =>
      have hie : s.ie = true := (Bool.and_eq_true_iff.mp hdue).1
      have hcount : s.count = 0 := hs.resolve_left (by simp [hie])
      have hentry : interruptEntry s = { s with tf := false, duty := 127 } :=
        (interruptEntry_of_due hdue).trans (tick_of_empty (congrArg BitVec.toNat hcount))
      rw [hentry] at ih
      exact ih (.inr hcount)

theorem Interleaved.ringKept {writes : List (State → State)} {s t : State}
    (h : Interleaved writes s t) (hw : ∀ w ∈ writes, RingFree w) (hs : s.ie = false ∨ s.count = 0) :
    t.rd = s.rd ∧ t.count = s.count := by
  induction writes generalizing s with
  | nil => exact ClockRun.ringKept h hs
  | cons w rest ih =>
    obtain ⟨u, hrun, hrest⟩ := h
    obtain ⟨hrd, hcount⟩ := hrun.ringKept hs
    have hie : u.ie = s.ie := by
      rw [hrun.eq_withClockOf]
      rfl
    obtain ⟨hwrd, hwcount, hwie⟩ := hw w List.mem_cons_self u
    obtain ⟨htrd, htcount⟩ := ih hrest (fun x hx => hw x (List.mem_cons_of_mem _ hx))
      (hs.imp (fun h => hwie (hie.trans h)) fun h => hwcount.trans (hcount.trans h))
    exact ⟨htrd.trans (hwrd.trans hrd), htcount.trans (hwcount.trans hcount)⟩

theorem WritesOnly.ringKept {writes : List (State → State)} {s t : State} (h : WritesOnly writes s t)
    (hw : ∀ w ∈ writes, RingFree w) (hs : s.ie = false ∨ s.count = 0) :
    t.rd = s.rd ∧ t.count = s.count := by
  obtain ⟨u, hu, ht⟩ := h
  rw [ht]
  exact hu.ringKept hw hs

/-! ### BEGIN -/

/-- BEGIN's writes (R232). -/
theorem begin_writesOnly (s : State) (sel : BitVec 8) :
    WritesOnly [fun u => { u with storageSel := sel }, fun u => { u with duty := 127 },
      fun u => u.responded 0 1] s ((beginCode sel).run s).2 :=
  (((Follows.refl s).codeWrite (f := writeStorageSel sel) _ fun u p hu => ⟨p, by rw [hu]; rfl⟩).codeAtomic
    (f := silenceOutput) _ fun u p => ⟨p, rfl⟩).finish .ok (fun _ => 1) fun _ _ => rfl

/-- Without a TICK in BEGIN's five intervals the output is silent and the ring as before. -/
theorem begin_of_calm {s : State} (h : Calm 5 s) (sel : BitVec 8) :
    ((beginCode sel).run s).2.duty = 127 ∧ ((beginCode sel).run s).2.rd = s.rd ∧
      ((beginCode sel).run s).2.count = s.count := by
  generalize hlatched : ((Code.write (writeStorageSel sel)).run s).2 = latched
  generalize hheld : silenceOutput (hold (gap latched)) = held
  generalize hsilenced : advanceSeq .done (hold held) = silenced
  have hrun : ((beginCode sel).run s).2 = finish .ok 1 (gap silenced) := by
    rw [beginCode, Code.run_andThen, hlatched, ← hsilenced, ← hheld]
    rfl
  obtain ⟨⟨hrd1, hcount1, -⟩, hcalm4⟩ := gap_of_calm h
  have hlatchedCalm : Calm 4 latched := by
    rw [← hlatched]
    exact hcalm4.congr rfl rfl rfl
  obtain ⟨⟨hrd2, hcount2, -⟩, hcalm3⟩ := gap_of_calm hlatchedCalm
  have hheldCalm : Calm 2 held := by
    rw [← hheld]
    exact (hold_of_calm hcalm3).congr rfl rfl rfl
  have hsilencedCalm : Calm 1 silenced := by
    rw [← hsilenced]
    exact (hold_of_calm hheldCalm).congr rfl rfl rfl
  obtain ⟨⟨hrd3, hcount3, hduty3⟩, -⟩ := gap_of_calm hsilencedCalm
  rw [hrun]
  refine ⟨hduty3.trans ?_, hrd3.trans ?_, hcount3.trans ?_⟩
  · simp [← hsilenced, ← hheld, Config.silence]
  · have hrd : latched.rd = s.rd := by simp [← hlatched, hrd1]
    simp [← hsilenced, ← hheld, hrd2, hrd]
  · have hcount : latched.count = s.count := by simp [← hlatched, hcount1]
    simp [← hsilenced, ← hheld, hcount2, hcount]

/-- Settles O41: two writes and the response; without a TICK the second stands. -/
theorem beginLatchesAndSilences : Obligations.BeginLatchesAndSilences := fun s sel =>
  have hwrites := begin_writesOnly s sel
  ⟨_, exec_eq (.begin sel) s, hwrites.eq_withClockOf (by simp [ClockApart, State.withClockOf, State.responded]),
    fun h => begin_of_calm h sel, hwrites⟩

/-! ### STOP -/

/-- TEARDOWN's writes (R234). -/
theorem Follows.teardown {writes : List (State → State)} {s t : State} (h : Follows writes s t) :
    Follows (writes ++ [fun u => { u with ie := false },
        fun u => { u with openFile := if t.streamActive then none else t.openFile },
        fun u => { u with duty := 127, streamActive := false, pstate := .stopped }]) s
      (teardown.run t).2 := by
  have hdisabled := h.codeAtomic (f := disableInterrupt) (fun u => { u with ie := false })
    fun u p => ⟨p, rfl⟩
  have hclosed := hdisabled.codeWhen (test := fun s => s.streamActive) (f := stClose)
    (fun u => { u with openFile := if t.streamActive then none else t.openFile }) fun u p hu => ?closed
  case closed =>
    have hactive : u.streamActive = t.streamActive :=
      (congrArg State.streamActive hu).symm.trans (by simp)
    have hopen : u.openFile = t.openFile := (congrArg State.openFile hu).symm.trans (by simp)
    refine ⟨p, ?_⟩
    rw [hu, ← hactive, ← hopen, show (u.withPortOf p).streamActive = u.streamActive from rfl]
    split <;> rfl
  have hsilenced := hclosed.codeAtomic (f := silenceAndStop)
    (fun u => { u with duty := 127, streamActive := false, pstate := .stopped }) fun u p => ⟨p, rfl⟩
  simpa [Machine.teardown] using hsilenced

/-- STOP's writes (R258). -/
theorem stop_writesOnly (s : State) :
    WritesOnly [fun u => { u with ie := false },
      fun u => { u with openFile := if s.streamActive then none else s.openFile },
      fun u => { u with duty := 127, streamActive := false, pstate := .stopped },
      fun u => u.responded 0 0] s ((stopCode).run s).2 := by
  have hwrites := (Follows.refl s).teardown.finish .ok (fun _ => 0) fun _ _ => rfl
  rwa [stopCode, Code.run_andThen]

/-- A stream torn down and a response: what holds after it of the output, and of the ring where none was
popped. -/
theorem teardown_responded {s a t : State} (ht : t = ((Code.finish .ok fun _ => 0).run (teardown.run a).2).2)
    (hwrites : WritesOnly [fun u => { u with ie := false },
      fun u => { u with openFile := if s.streamActive then none else s.openFile },
      fun u => { u with duty := 127, streamActive := false, pstate := .stopped },
      fun u => u.responded 0 0] s t) :
    t = (({ s with
        pstate := .stopped, ie := false, streamActive := false,
        openFile := if s.streamActive then none else s.openFile }).responded 0 0).withClockOf t ∧
    t.duty = 127 ∧ (s.ie = false ∨ s.count = 0 → t.rd = s.rd ∧ t.count = s.count) := by
  refine ⟨hwrites.eq_withClockOf (by simp [ClockApart, State.withClockOf, State.responded]), ?_,
    hwrites.ringKept (by simp [RingFree, State.responded])⟩
  obtain ⟨-, -, hduty⟩ := gap_noTick (teardown.run a).2 (by simp)
  rw [ht, Code.run_finish, advanceSeq_finish]
  simpa [Config.silence] using hduty

/-- Settles O45: TEARDOWN's writes and the response. -/
theorem stopTearsDown : Obligations.StopTearsDown := by
  intro s
  obtain ⟨hframe, hduty, hring⟩ := teardown_responded (a := s) rfl (stop_writesOnly s)
  exact ⟨_, exec_eq .stop s, hframe, hduty, fun hie => hring (.inl hie), stop_writesOnly s⟩

/-! ### UPDATE at the end of a stream -/

/-- The test of the end of the stream finds what held before it: nothing more can be popped. -/
theorem endOfStream_clock {s t : State} (h : endOfStream s = true) (hsize : t.dataSize = s.dataSize)
    (hpos : t.dataPos = s.dataPos) (heod : t.eod = s.eod) (hcount : t.count = s.count) :
    endOfStream t = true := by
  simpa [endOfStream, hsize, hpos, heod, hcount] using h

theorem count_eq_zero_of_endOfStream {s : State} (h : endOfStream s = true) : s.count = 0 := by
  simp only [endOfStream, Bool.and_eq_true, decide_eq_true_eq] at h
  exact h.2

theorem gap_ringKept {s : State} (h : s.ie = false ∨ s.count = 0) :
    (gap s).rd = s.rd ∧ (gap s).count = s.count := by
  obtain ⟨u, hrun, hgap⟩ := exists_clockRun_gap_self s
  rw [hgap]
  exact hrun.ringKept h

/-- A test whose outcome is known. -/
theorem run_ask_bind {α : Type} {test : State → Bool} {s : State} {b : Bool} (h : test (gap s) = b)
    (f : Bool → Code α) : ((Code.ask test).bind f).run s = (f b).run ((Code.ask test).run s).2 := by
  subst h
  exact Code.run_bind ..

/-- The state after UPDATE's test of `pstate` (R244). -/
def updateAsked (s : State) : State := ((Code.ask fun s => s.pstate ≠ .playing).run s).2

/-- The state after UPDATE's tests of `pstate` and of the end of the stream (R244). -/
def updateTested (s : State) : State := ((Code.ask endOfStream).run (updateAsked s)).2

theorem updateTested_follows (s : State) : Follows [] s (updateTested s) :=
  ((Follows.refl s).ask _).ask _

/-- From `Playing` UPDATE tests for the end of the stream. -/
theorem updateCode_run_of_playing {s : State} (h : s.pstate = .playing) {b : Bool}
    (hended : endOfStream (gap (updateAsked s)) = b) :
    updateCode.run s = (if b then endOfStreamCode else refill.andThen <| Code.finish .ok fun _ => 0).run
      (updateTested s) := by
  rw [updateCode, run_ask_bind (b := false) (by simp [h])]
  exact run_ask_bind hended _

/-- From `Playing` at the end of the stream UPDATE goes on to R251: nothing more can be popped before the
test. -/
theorem updateCode_run_of_ended {s : State} (hplaying : s.pstate = .playing)
    (hended : endOfStream s = true) :
    updateCode.run s = endOfStreamCode.run (updateTested s) := by
  have hcount := count_eq_zero_of_endOfStream hended
  have hasked : (updateAsked s).count = s.count := (gap_ringKept (s := s) (.inr hcount)).2
  have htested := (gap_ringKept (s := updateAsked s) (.inr (hasked.trans hcount))).2
  exact updateCode_run_of_playing hplaying (endOfStream_clock hended (by simp [updateAsked])
    (by simp [updateAsked]) (by simp [updateAsked]) (htested.trans hasked))

/-- Settles O49: without a due loop the tests lead to TEARDOWN, and nothing is left to be popped. -/
theorem updateStopsAtEndOfStream : Obligations.UpdateStopsAtEndOfStream := by
  intro s hplaying hended hloop
  let a : State := ((Code.ask loopDue).run (updateTested s)).2
  have hrun : (updateCode.run s).2 = ((Code.finish .ok fun _ => 0).run (teardown.run a).2).2 := by
    rw [updateCode_run_of_ended hplaying hended, endOfStreamCode,
      run_ask_bind (b := false) (by simpa [loopDue, updateTested, updateAsked] using hloop)]
    exact congrArg Prod.snd (Code.run_andThen ..)
  have hactive : a.streamActive = s.streamActive := by simp [a, updateTested, updateAsked]
  have hopen : a.openFile = s.openFile := by simp [a, updateTested, updateAsked]
  have hwrites := (((updateTested_follows s).ask loopDue).teardown).finish .ok (fun _ => 0) fun _ _ => rfl
  rw [show ((Code.ask loopDue).run (updateTested s)).2 = a from rfl, hactive, hopen, ← hrun] at hwrites
  obtain ⟨hframe, hduty, hring⟩ := teardown_responded hrun hwrites
  obtain ⟨hrd, hcount⟩ := hring (.inr (count_eq_zero_of_endOfStream hended))
  exact ⟨_, exec_eq .update s, hframe, hduty, hrd, hcount, hwrites⟩

/-! ### PAUSE -/

/-- The state after PAUSE's test of `pstate` (R254). -/
def pauseAsked (s : State) : State := ((Code.ask fun s => s.pstate = .playing).run s).2

/-- The segments of PAUSE after its test (R254). -/
def pausePlaying (mute : Bool) : Code Unit :=
  (Code.atomic disableInterrupt).andThen <|
  (Code.when (fun _ => mute) silenceOutput).andThen <|
  (Code.write markPaused).andThen <|
  Code.finish .ok fun _ => 0

theorem pauseCode_run_of_playing {s : State} (h : s.pstate = .playing) (mute : Bool) :
    (pauseCode mute).run s = (pausePlaying mute).run (pauseAsked s) :=
  run_ask_bind (b := true) (by simp [h]) _

/-- PAUSE's writes while Playing (R254). -/
theorem pause_writesOnly {s : State} (h : s.pstate = .playing) (mute : Bool) :
    WritesOnly [fun u => { u with ie := false },
      fun u => { u with duty := if mute then 127 else u.duty },
      fun u => { u with pstate := .paused }, fun u => u.responded 0 0] s ((pauseCode mute).run s).2 := by
  have hdisabled := ((Follows.refl s).ask fun s => s.pstate = .playing).codeAtomic
    (f := disableInterrupt) (fun u => { u with ie := false }) fun u p => ⟨p, rfl⟩
  have hmuted := hdisabled.codeWhen (test := fun _ => mute) (f := silenceOutput)
    (fun u => { u with duty := if mute then 127 else u.duty }) fun u p hu => ⟨p, by
      rw [hu]
      cases mute <;> rfl⟩
  have hwrites := (hmuted.codeWrite (f := markPaused) (fun u => { u with pstate := .paused })
    fun u p hu => ⟨p, by rw [hu]; rfl⟩).finish .ok (fun _ => 0) fun _ _ => rfl
  rw [pauseCode_run_of_playing h]
  exact hwrites

/-- Once PAUSE has disabled the interrupt no TICK follows: ring and output are those of that moment, but for
the mute. -/
theorem pausePlaying_ring (mute : Bool) (s : State) :
    ((pausePlaying mute).run s).2.rd = (gap s).rd ∧ ((pausePlaying mute).run s).2.count = (gap s).count ∧
      ((pausePlaying mute).run s).2.duty = if mute then 127 else (gap s).duty := by
  cases mute <;> simp [pausePlaying, gap_noTick, Config.silence]

/-- Settles O46: the writes of R254; a TICK can only be taken in the two intervals before the interrupt is
disabled. -/
theorem pauseWhilePlaying : Obligations.PauseWhilePlaying := by
  intro s mute hplaying
  have hwrites := pause_writesOnly hplaying mute
  obtain ⟨hrd, hcount, hduty⟩ := pausePlaying_ring mute (pauseAsked s)
  rw [← pauseCode_run_of_playing hplaying] at hrd hcount hduty
  have hframe := hwrites.eq_withClockOf (by simp [ClockApart, State.withClockOf, State.responded])
  refine ⟨_, exec_eq (.pause mute) s, hframe, fun hmute => hduty.trans (if_pos hmute), fun h => ?_,
    hwrites⟩
  obtain ⟨⟨hrd1, hcount1, hduty1⟩, hcalm⟩ := gap_of_calm (n := 1) (s := s) h
  have hasked : Calm 1 (pauseAsked s) := hcalm.congr rfl rfl rfl
  obtain ⟨⟨hrd2, hcount2, hduty2⟩, -⟩ := gap_of_calm hasked
  exact ⟨hrd.trans (hrd2.trans hrd1), hcount.trans (hcount2.trans hcount1), fun hmute =>
    (hduty.trans (if_neg (by simp [hmute]))).trans (hduty2.trans hduty1)⟩

/-! ### RESUME -/

/-- The segments of RESUME after its test (R256). -/
def resumePaused : Code Unit :=
  (Code.write markPlaying).andThen <|
  (Code.atomic clearPendingAndEnable).andThen <|
  Code.finish .ok fun _ => 0

theorem resumeCode_run_of_paused {s : State} (h : s.pstate = .paused) :
    resumeCode.run s = resumePaused.run ((Code.ask fun s => s.pstate = .paused).run s).2 :=
  run_ask_bind (b := true) (by simp [h]) _

/-- RESUME's writes while Paused (R256). -/
theorem resume_writesOnly {s : State} (h : s.pstate = .paused) :
    WritesOnly [fun u => { u with pstate := .playing }, fun u => { u with tf := false, ie := true },
      fun u => u.responded 0 0] s (resumeCode.run s).2 := by
  have hplaying := ((Follows.refl s).ask fun s => s.pstate = .paused).codeWrite (f := markPlaying)
    (fun u => { u with pstate := .playing }) fun u p hu => ⟨p, by rw [hu]; rfl⟩
  have hwrites := (hplaying.codeAtomic (f := clearPendingAndEnable)
    (fun u => { u with tf := false, ie := true }) fun u p => ⟨p, rfl⟩).finish .ok (fun _ => 0)
    fun _ _ => rfl
  rw [resumeCode_run_of_paused h]
  exact hwrites

/-- Before RESUME enables the interrupt none is taken, and then, without timer steps, none is pending. -/
theorem resume_of_quiet {s : State} (hpaused : s.pstate = .paused) (hie : s.ie = false)
    (h : Quiet 6 s) : (resumeCode.run s).2.tf = false ∧ NoTick s (resumeCode.run s).2 := by
  have hoff : ∀ {u : State}, u.ie = false → interruptDue u = false := fun h => by simp [interruptDue, h]
  generalize hasked : ((Code.ask fun s => s.pstate = .paused).run s).2 = asked
  generalize hmarked : ((Code.write markPlaying).run asked).2 = marked
  generalize hcleared : clearPendingAndEnable (hold (gap marked)) = cleared
  generalize henabled : advanceSeq .done (hold cleared) = enabled
  have hrun : (resumeCode.run s).2 = finish .ok 0 (gap enabled) := by
    rw [resumeCode_run_of_paused hpaused, hasked, resumePaused, Code.run_andThen, hmarked, ← henabled,
      ← hcleared]
    rfl
  have haskedIe : asked.ie = false := by simp [← hasked, hie]
  have hmarkedIe : marked.ie = false := by simp [← hmarked, hie, ← hasked]
  have hq5 : Quiet 5 asked := by
    rw [← hasked]
    exact (gap_of_quiet h (hoff hie)).2.congr rfl
  have hq4 : Quiet 4 marked := by
    rw [← hmarked]
    exact (gap_of_quiet hq5 (hoff haskedIe)).2.congr rfl
  have hq2 : Quiet 2 cleared := by
    rw [← hcleared]
    exact (hold_of_quiet (gap_of_quiet hq4 (hoff hmarkedIe)).2).2.congr rfl
  obtain ⟨hhold, hq1⟩ := hold_of_quiet hq2
  have htf : enabled.tf = false := by
    rw [← henabled, hhold, ← hcleared]
    rfl
  have hquiet : Quiet 1 enabled := by
    rw [← henabled]
    exact hq1.congr rfl
  obtain ⟨hlast, -⟩ := gap_of_quiet hquiet (by simp [interruptDue, htf])
  have hnone : NoTick s enabled := by
    simp [← henabled, ← hcleared, ← hmarked, ← hasked, NoTick, gap_noTick, hie]
  rw [hrun, hlast]
  exact ⟨htf, hnone⟩

/-- Settles O47: the writes of R256. -/
theorem resumeWhilePaused : Obligations.ResumeWhilePaused := fun s hpaused =>
  have hwrites := resume_writesOnly hpaused
  ⟨_, exec_eq .resume s, hwrites.eq_withClockOf (by simp [ClockApart, State.withClockOf, State.responded]),
    fun hie hquiet => resume_of_quiet hpaused hie hquiet, hwrites⟩

end Machine

end Sys2Proof
end

section
/-! What every segment of a command does, and how the sequencer runs them one a step (R25, R111, R314). -/

namespace Sys2Proof

namespace Machine

open Host

/-! ### A relation that every segment keeps -/

/-- Every segment of the procedure, on every path and from every state, is a step of `R`. -/
def Code.Steps {α : Type} (R : State → State → Prop) (c : Code α) : Prop :=
  match c with
  | .ret _ => True
  | .seg effect next => (∀ s, R s (effect s).2) ∧ ∀ a, (next a).Steps R

section

variable {α β : Type} {R : State → State → Prop}

theorem Code.Steps.ret (a : α) : (Code.ret a).Steps R := trivial

theorem Code.Steps.bind {c : Code α} {f : α → Code β} (hc : c.Steps R) (hf : ∀ a, (f a).Steps R) :
    (c.bind f).Steps R := by
  induction c with
  | ret a => exact hf a
  | seg effect next ih => exact ⟨hc.1, fun a => ih a (hc.2 a)⟩

theorem Code.Steps.andThen {c : Code α} {d : Code β} (hc : c.Steps R) (hd : d.Steps R) :
    (c.andThen d).Steps R := hc.bind fun _ => hd

theorem Code.Steps.write {f : State → State} (h : ∀ s, R s (f s)) : (Code.write f).Steps R :=
  ⟨h, fun _ => trivial⟩

theorem Code.Steps.atomic {f : State → State} (h : ∀ s, R s (hold (f (hold s)))) :
    (Code.atomic f).Steps R := .write h

theorem Code.Steps.openFile {name : State → Name} (h : ∀ n s, R s (stOpen n s).2) :
    (Code.openFile name).Steps R := ⟨fun s => h (name s) s, fun _ => trivial⟩

theorem Code.Steps.read {n : Nat} (h : ∀ s, R s (stRead n s).2) : (Code.read n).Steps R :=
  ⟨h, fun _ => trivial⟩

theorem Code.Steps.when {test : State → Bool} {f : State → State} (hrefl : ∀ s, R s s)
    (h : ∀ s, R s (f s)) : (Code.when test f).Steps R := by
  refine ⟨fun s => ?_, fun _ => trivial⟩
  cases ht : test s
  · simpa [ht] using hrefl s
  · simpa [ht] using h s

theorem Code.Steps.assign (hrefl : ∀ s, R s s) : Code.assign.Steps R := .write hrefl

theorem Code.Steps.ask (hrefl : ∀ s, R s s) (test : State → Bool) : (Code.ask test).Steps R :=
  ⟨hrefl, fun _ => trivial⟩

theorem Code.Steps.number (hrefl : ∀ s, R s s) (v : State → Nat) : (Code.number v).Steps R :=
  ⟨hrefl, fun _ => trivial⟩

theorem Code.Steps.integer (hrefl : ∀ s, R s s) (x : Int) : (Code.integer x).Steps R :=
  ⟨hrefl, fun _ => trivial⟩

theorem Code.Steps.fraction (hrefl : ∀ s, R s s) (t : Int × Int) : (Code.fraction t).Steps R :=
  ⟨hrefl, fun _ => trivial⟩

/-- What is left of a procedure consists of its segments. -/
theorem Code.Steps.after {c : Code α} (hc : c.Steps R) (answers : List Answer) :
    (c.after answers).Steps R := by
  induction answers generalizing c with
  | nil =>
    cases c with
    | ret v => trivial
    | seg effect next => exact hc
  | cons a rest ih =>
    cases c with
    | ret v => trivial
    | seg effect next => exact ih (hc.2 a)

/-- A relation that goes on through the time between segments holds of a whole run. -/
theorem Code.Steps.run {c : Code α} (hc : c.Steps R) (hrefl : ∀ s, R s s)
    (htrans : ∀ {s t u}, R s t → R t u → R s u) (hgap : ∀ s, R s (gap s))
    (hseq : ∀ a s, R s (advanceSeq a s)) (s : State) : R s (c.run s).2 := by
  induction c generalizing s with
  | ret a => exact hrefl s
  | seg effect next ih =>
    exact htrans (htrans (htrans (hgap s) (hc.1 _)) (hseq _ _)) (ih _ (hc.2 _) _)

/-! ### The procedures -/

/-- What PARSE writes (R152). -/
structure ParseSteps (R : State → State → Prop) : Prop where
  refl : ∀ s, R s s
  read : ∀ n s, R s (stRead n s).2
  seek : ∀ p s, R s (stSeek p s)

/-- What REFILL writes (R246). -/
structure RefillSteps (R : State → State → Prop) : Prop extends ParseSteps R where
  push : ∀ b s, R s (hold (pushAll b (hold s)))
  advance : ∀ k s, R s (advancePos k s)
  latch : ∀ s, R s (latchEndOfData s)

theorem ParseSteps.readThen (h : ParseSteps R) {n : Nat} {next : List Byte → Code ParseResult}
    (hnext : ∀ b, (next b).Steps R) : (readThen n next).Steps R := by
  refine .bind (.read (h.read n)) fun b => ?_
  split
  · exact .ret _
  · exact hnext b

theorem ParseSteps.skipThen (h : ParseSteps R) {n : Nat} {next : Code ParseResult}
    (hnext : next.Steps R) : (skipThen n next).Steps R := by
  refine .bind (.number h.refl _) fun p => .bind (.when h.refl (h.seek p)) fun ok => ?_
  split
  · exact hnext
  · exact .ret _

theorem ParseSteps.parseLoop (h : ParseSteps R) (fuel : Nat) (f : FmtInfo) :
    (parseLoop fuel f).Steps R := by
  induction fuel generalizing f with
  | zero => exact .ret _
  | succ fuel ih =>
    refine h.readThen fun id => h.readThen fun size => .bind (.ask h.refl _) fun isFmt => ?_
    split
    · refine .bind (.ask h.refl _) fun short => ?_
      split
      · exact .ret _
      · unfold fmtBodyThen
        repeat refine h.readThen fun _ => ?_
        exact h.skipThen (.andThen (.assign h.refl) (ih _))
    · refine .bind (.ask h.refl _) fun isData => ?_
      split
      · exact .bind (.number h.refl _) fun start => .bind (.ask h.refl _) fun playable => .ret _
      · exact h.skipThen (ih f)

/-- PARSE's segments. -/
theorem ParseSteps.parse (h : ParseSteps R) : parse.Steps R := by
  refine h.readThen fun riff => ?_
  split
  · refine h.readThen fun _ => h.readThen fun wave => ?_
    split
    · exact .andThen (.assign h.refl) <| .andThen (.assign h.refl) <| .andThen (.assign h.refl) <|
        .andThen (.assign h.refl) <| .andThen (.assign h.refl) <| h.parseLoop _ _
    · exact .ret _
  · exact .ret _

theorem RefillSteps.refillLoop (h : RefillSteps R) (fuel : Nat) : (refillLoop fuel).Steps R := by
  induction fuel with
  | zero => exact .ret _
  | succ fuel ih =>
    refine .bind (.number h.refl _) fun c => .bind (.ask h.refl _) fun enough => ?_
    split
    · exact .ret _
    · refine .bind (.number h.refl _) fun n => .bind (.read (h.read n)) fun b =>
        .andThen (.atomic (h.push b)) <| .andThen (.write (h.advance _)) <|
        .bind (.when h.refl h.latch) fun failed => ?_
      split
      · exact .ret _
      · exact ih

/-- REFILL's segments. -/
theorem RefillSteps.refill (h : RefillSteps R) : refill.Steps R := by
  refine .bind (.ask h.refl _) fun inactive => ?_
  split
  · exact .ret _
  · refine .bind (.number h.refl _) fun exp => .bind (.when h.refl h.latch) fun beyond => ?_
    split
    · exact .ret _
    · exact .andThen (.when h.refl (h.seek exp)) (h.refillLoop _)

theorem RefillSteps.refillTimes (h : RefillSteps R) (n : Nat) : (refillTimes n).Steps R := by
  induction n with
  | zero => exact .ret _
  | succ n ih => exact .andThen h.refill ih

/-- APPLY_RATE computes and writes the reload (R182). -/
theorem applyRate_steps (hrefl : ∀ s, R s s) (hreload : ∀ r s, R s (hold (writeReload r (hold s)))) :
    applyRate.Steps R :=
  .bind (.number hrefl _) fun _ => .bind (.number hrefl _) fun _ => .bind (.number hrefl _) fun r =>
    .atomic (hreload r)

/-- TEARDOWN's three segments (R234). -/
theorem teardown_steps (hrefl : ∀ s, R s s) (hdisable : ∀ s, R s (hold (disableInterrupt (hold s))))
    (hclose : ∀ s, R s (stClose s)) (hsilence : ∀ s, R s (hold (silenceAndStop (hold s)))) :
    teardown.Steps R :=
  .andThen (.atomic hdisable) <| .andThen (.when hrefl hclose) (.atomic hsilence)

/-- What START writes on every path (R233, R237 to R241). -/
structure StartSteps (R : State → State → Prop) : Prop extends RefillSteps R where
  openFile : ∀ n s, R s (stOpen n s).2
  close : ∀ s, R s (stClose s)
  commit : ∀ start size rate s, R s (hold (commitStream start size rate (hold s)))
  base : ∀ s, R s (writeBaseReload s)
  reload : ∀ r s, R s (hold (writeReload r (hold s)))
  enable : ∀ s, R s (hold (clearPendingAndEnable (hold s)))

theorem StartSteps.primeAndEnable (h : StartSteps R) : primeAndEnable.Steps R :=
  .andThen (h.refillTimes _) <|
    .andThen (.write h.base) <| .andThen (applyRate_steps h.refl h.reload) (.atomic h.enable)

theorem StartSteps.startParsed (h : StartSteps R) (r : ParseResult) : (startParsed r).Steps R := by
  refine .andThen (.ask h.refl _) ?_
  cases r with
  | formatFail => exact .andThen (.write h.close) (.ret _)
  | ok start size rate =>
    exact .andThen (.assign h.refl) <| .andThen (.atomic (h.commit start size rate)) <|
      .andThen h.primeAndEnable (.ret _)

/-- START's segments. -/
theorem StartSteps.startStream (h : StartSteps R) (name : State → Name) :
    (startStream name).Steps R := by
  refine .bind (.openFile h.openFile) fun opened => ?_
  split
  · exact .bind h.parse h.startParsed
  · exact .ret _

/-- RESTART's segments (R252). -/
theorem StartSteps.restart (h : StartSteps R)
    (hdisable : ∀ s, R s (hold (disableInterrupt (hold s))))
    (hsilence : ∀ s, R s (hold (silenceAndStop (hold s)))) : restart.Steps R :=
  .andThen (teardown_steps h.refl hdisable h.close hsilence) (h.startStream _)

/-- What the commands that leave the playback state alone write (R107, R112, R184 to R187, R214, R232, R262). -/
structure PlainSteps (R : State → State → Prop) : Prop where
  refl : ∀ s, R s s
  select : ∀ sel s, R s (writeStorageSel sel s)
  silence : ∀ s, R s (hold (silenceOutput (hold s)))
  volume : ∀ v s, R s (hold (writeVolume v (hold s)))
  rate : ∀ x s, R s (writeRate x s)
  reload : ∀ r s, R s (hold (writeReload r (hold s)))
  arg : ∀ idx v s, R s (writeArg idx v s)
  loopFlag : ∀ b s, R s (writeLoopFlag b s)
  finish : ∀ st v s, R s (finish st v s)

theorem PlainSteps.finishCode (h : PlainSteps R) (st : Status) (v : State → Word) :
    (Code.finish st v).Steps R := .write fun s => h.finish st (v s) s

/-- APPLY_RATE and `finish`, the end of the rate commands (R184, R187). -/
theorem PlainSteps.applyRate (h : PlainSteps R) :
    (applyRate.andThen <| Code.finish .ok fun _ => 0).Steps R :=
  .andThen (applyRate_steps h.refl h.reload) (h.finishCode _ _)

/-- The commands that may change the playback state (R230). -/
def MovesPlayback (i : Instr) : Prop :=
  (∃ name, i = .play name) ∨ i = .stop ∨ (∃ mute, i = .pause mute) ∨ i = .resume ∨ i = .update

/-- The segments of the other commands. -/
theorem PlainSteps.commandCode (h : PlainSteps R) {i : Instr} (hi : ¬ MovesPlayback i) :
    (commandCode i).Steps R := by
  cases i with
  | play name => exact absurd (.inl ⟨name, rfl⟩) hi
  | stop => exact absurd (.inr (.inl rfl)) hi
  | pause mute => exact absurd (.inr (.inr (.inl ⟨mute, rfl⟩))) hi
  | resume => exact absurd (.inr (.inr (.inr (.inl rfl)))) hi
  | update => exact absurd (.inr (.inr (.inr (.inr rfl)))) hi
  | begin sel => exact .andThen (.write (h.select sel)) (.andThen (.atomic h.silence) (h.finishCode _ _))
  | setVolume v => exact .andThen (.atomic (h.volume v)) (h.finishCode _ _)
  | setRate q => exact .andThen (.write (h.rate _)) h.applyRate
  | setArg idx v => exact .andThen (.write (h.arg idx v)) (h.finishCode _ _)
  | setSpeedPulse p =>
    rw [Machine.commandCode, setSpeedPulseCode_eq]
    refine .bind ?_ fun x => .andThen (.write (h.rate x)) h.applyRate
    exact .bind (.number h.refl _) fun _ => .bind (.number h.refl _) fun _ =>
      .bind (.number h.refl _) fun _ => .bind (.number h.refl _) fun _ =>
      .bind (.integer h.refl _) fun _ => .bind (.integer h.refl _) fun _ =>
      .bind (.fraction h.refl _) fun _ => .integer h.refl _
  | setLoop b => exact .andThen (.write (h.loopFlag b)) (h.finishCode _ _)
  | nop | isPlaying | isPaused | getSampleRate | getBuffered | getLoop => exact h.finishCode _ _

/-- What the commands write, all told. -/
structure CommandSteps (R : State → State → Prop) : Prop extends StartSteps R, PlainSteps R where
  disable : ∀ s, R s (hold (disableInterrupt (hold s)))
  stop : ∀ s, R s (hold (silenceAndStop (hold s)))
  name : ∀ name s, R s (writeName name s)
  nameValid : ∀ s, R s (markNameValid s)
  mute : ∀ s, R s (silenceOutput s)
  pause : ∀ s, R s (markPaused s)
  play : ∀ s, R s (markPlaying s)

theorem CommandSteps.teardown (h : CommandSteps R) : teardown.Steps R :=
  teardown_steps h.toStartSteps.refl h.disable h.close h.stop

/-- Every segment of every command makes one of these writes. -/
theorem CommandSteps.commandCode (h : CommandSteps R) (i : Instr) : (commandCode i).Steps R := by
  have hrefl := h.toStartSteps.refl
  have hfinish := h.toPlainSteps.finishCode
  by_cases hi : MovesPlayback i
  · obtain ⟨name, rfl⟩ | rfl | ⟨mute, rfl⟩ | rfl | rfl := hi
    · exact .andThen h.teardown <| .andThen (.write (h.name name)) <| .andThen (.write h.nameValid) <|
        .bind (h.startStream _) fun _ => hfinish _ _
    · exact .andThen h.teardown (hfinish _ _)
    · refine .bind (.ask hrefl _) fun playing => ?_
      split
      · exact .andThen (.atomic h.disable) <| .andThen (.when hrefl h.mute) <|
          .andThen (.write h.pause) (hfinish _ _)
      · exact hfinish _ _
    · refine .bind (.ask hrefl _) fun paused => ?_
      split
      · exact .andThen (.write h.play) <| .andThen (.atomic h.enable) (hfinish _ _)
      · exact hfinish _ _
    · refine .bind (.ask hrefl _) fun idle => ?_
      split
      · exact hfinish _ _
      · refine .bind (.ask hrefl _) fun ended => ?_
        split
        · refine .bind (.ask hrefl _) fun looping => ?_
          split
          · exact .bind (h.restart h.disable h.stop) fun _ => hfinish _ _
          · exact .andThen h.teardown (hfinish _ _)
        · exact .andThen h.refill (hfinish _ _)
  · exact h.toPlainSteps.commandCode hi

/-- A property of the segments of every command holds of an illegal word's segment too (R107). -/
theorem CommandSteps.wordCode (h : CommandSteps R) (w : Word) : (wordCode w).Steps R := by
  unfold Machine.wordCode
  split
  · exact h.commandCode _
  · exact h.toPlainSteps.finishCode _ _

end

/-! ### Commands end with `finish` -/

/-- The command goes on: busy, with the word and the answers latched (R24, R25), and the host waits (R86). -/
def GoesOn (s t : State) : Prop := t.busy = s.busy ∧ t.seq = s.seq ∧ t.host = s.host

/-- The command is over (R112). -/
def Finishes (s t : State) : Prop := t.busy = false ∧ t.seq = .idle ∧ t.host = s.host

/-- On every path the last segment, and no other, ends the command (R111, R112). -/
def Code.Ends (c : Code Unit) : Prop :=
  match c with
  | .ret _ => False
  | .seg effect next =>
    (∀ s, GoesOn s (effect s).2) ∧ (∀ a, (next a).Ends) ∨
      (∀ s, Finishes s (effect s).2) ∧ ∀ a, next a = .ret ()

theorem Code.Ends.bind {α : Type} {c : Code α} {f : α → Code Unit} (hc : c.Steps GoesOn)
    (hf : ∀ a, (f a).Ends) : (c.bind f).Ends := by
  induction c with
  | ret a => exact hf a
  | seg effect next ih => exact .inl ⟨hc.1, fun a => ih a (hc.2 a)⟩

theorem Code.Ends.andThen {α : Type} {c : Code α} {d : Code Unit} (hc : c.Steps GoesOn) (hd : d.Ends) :
    (c.andThen d).Ends := .bind hc fun _ => hd

theorem Code.Ends.finish (st : Status) (v : State → Word) : (Code.finish st v).Ends :=
  .inr ⟨fun _ => ⟨rfl, rfl, rfl⟩, fun _ => rfl⟩

theorem GoesOn.refl (s : State) : GoesOn s s := ⟨rfl, rfl, rfl⟩

theorem startSteps_goesOn : StartSteps GoesOn := by
  constructor
  case toRefillSteps =>
    constructor
    case toParseSteps => constructor <;> simp [GoesOn]
    all_goals simp [GoesOn]
  all_goals simp [GoesOn]

theorem teardown_goesOn : teardown.Steps GoesOn :=
  teardown_steps GoesOn.refl (by simp [GoesOn]) (by simp [GoesOn]) (by simp [GoesOn])

theorem applyRate_goesOn : applyRate.Steps GoesOn :=
  applyRate_steps GoesOn.refl startSteps_goesOn.reload

theorem refill_goesOn : refill.Steps GoesOn := startSteps_goesOn.refill

theorem restart_goesOn : restart.Steps GoesOn :=
  startSteps_goesOn.restart (by simp [GoesOn]) (by simp [GoesOn])

/-- Every command ends with its `finish` (R111). -/
theorem commandCode_ends (i : Instr) : (commandCode i).Ends := by
  cases i with
  | nop => exact .finish _ _
  | begin sel => exact .andThen (.write (by simp [GoesOn])) <| .andThen (.atomic (by simp [GoesOn])) (.finish _ _)
  | play name =>
    exact .andThen teardown_goesOn <| .andThen (.write (by simp [GoesOn])) <|
      .andThen (.write (by simp [GoesOn])) <|
      .bind (startSteps_goesOn.startStream _) fun _ => .finish _ _
  | stop => exact .andThen teardown_goesOn (.finish _ _)
  | pause mute =>
    refine .bind (.ask GoesOn.refl _) fun playing => ?_
    split
    · exact .andThen (.atomic (by simp [GoesOn])) <|
        .andThen (.when GoesOn.refl (by simp [GoesOn])) <|
        .andThen (.write (by simp [GoesOn])) (.finish _ _)
    · exact .finish _ _
  | resume =>
    refine .bind (.ask GoesOn.refl _) fun paused => ?_
    split
    · exact .andThen (.write (by simp [GoesOn])) <| .andThen (.atomic startSteps_goesOn.enable) (.finish _ _)
    · exact .finish _ _
  | update =>
    refine .bind (.ask GoesOn.refl _) fun idle => ?_
    split
    · exact .finish _ _
    · refine .bind (.ask GoesOn.refl _) fun ended => ?_
      split
      · refine .bind (.ask GoesOn.refl _) fun looping => ?_
        split
        · exact .bind restart_goesOn fun _ => .finish _ _
        · exact .andThen teardown_goesOn (.finish _ _)
      · exact .andThen refill_goesOn (.finish _ _)
  | setVolume v => exact .andThen (.atomic (by simp [GoesOn])) (.finish _ _)
  | setRate q => exact .andThen (.write (by simp [GoesOn])) <| .andThen applyRate_goesOn (.finish _ _)
  | setArg idx v => exact .andThen (.write (by simp [GoesOn, writeArg_cases])) (.finish _ _)
  | setSpeedPulse p =>
    rw [commandCode, setSpeedPulseCode_eq]
    refine .bind ?_ fun x => .andThen (.write (by simp [GoesOn])) <| .andThen applyRate_goesOn (.finish _ _)
    exact .bind (.number GoesOn.refl _) fun _ => .bind (.number GoesOn.refl _) fun _ =>
      .bind (.number GoesOn.refl _) fun _ => .bind (.number GoesOn.refl _) fun _ =>
      .bind (.integer GoesOn.refl _) fun _ => .bind (.integer GoesOn.refl _) fun _ =>
      .bind (.fraction GoesOn.refl _) fun _ => .integer GoesOn.refl _
  | setLoop b => exact .andThen (.write (by simp [GoesOn])) (.finish _ _)
  | isPlaying => exact .finish _ _
  | isPaused => exact .finish _ _
  | getSampleRate => exact .finish _ _
  | getBuffered => exact .finish _ _
  | getLoop => exact .finish _ _

theorem wordCode_ends (w : Word) : (wordCode w).Ends := by
  unfold wordCode
  split
  · exact commandCode_ends _
  · exact .finish _ _

/-! ### One segment a step -/

/-- The next segment of a running command (R25). -/
theorem runSegment_of_seg {s : State} {w : Word} {answers : List Answer}
    {effect : State → Answer × State} {next : Answer → Code Unit} (hseq : s.seq = .run w answers)
    (hafter : (wordCode w).after answers = .seg effect next) : runSegment s = (segment effect s).2 := by
  simp only [runSegment, hseq, hafter]

/-- A segment before the last moves the sequencer on by its answer (R25). -/
theorem segment_of_goesOn {effect : State → Answer × State} (h : ∀ s, GoesOn s (effect s).2) {s : State}
    {w : Word} {answers : List Answer} (hseq : s.seq = .run w answers) :
    (segment effect s).2.busy = s.busy ∧
      (segment effect s).2.seq = .run w (answers ++ [(segment effect s).1]) ∧
      (segment effect s).2.host = s.host := by
  obtain ⟨hbusy, hmid, hhost⟩ := h (gap s)
  refine ⟨hbusy.trans (by simp), ?_, hhost.trans (by simp)⟩
  simp only [segment, advanceSeq, hmid, gap_fields, hseq]

/-- The last segment leaves the sequencer idle (R25, R112). -/
theorem segment_of_finishes {effect : State → Answer × State} (h : ∀ s, Finishes s (effect s).2)
    (s : State) : (segment effect s).2.busy = false ∧ (segment effect s).2.seq = .idle ∧
      (segment effect s).2.host = s.host := by
  obtain ⟨hbusy, hmid, hhost⟩ := h (gap s)
  refine ⟨hbusy, ?_, hhost.trans (by simp)⟩
  simp only [segment, advanceSeq, hmid]

/-- What is left of a command after one answer more. -/
theorem after_append_of_seg {w : Word} {answers : List Answer} {effect : State → Answer × State}
    {next : Answer → Code Unit} (hafter : (wordCode w).after answers = .seg effect next) (a : Answer) :
    (wordCode w).after (answers ++ [a]) = next a := by
  rw [Code.after_append, hafter]
  cases h : next a <;> simp [Code.after, h]

theorem core_run_succ {s t : State} (h : step s = .next t) (k : Nat) :
    core.run (k + 1) s = core.run k t := by
  have hstep : core.step s = .next t := h
  simp only [Core.run, hstep]

/-- In the middle of the command of `w`. -/
structure Running (w : Word) (answers : List Answer) (s : State) : Prop where
  busy : s.busy = true
  seq : s.seq = .run w answers

/-- What is left of a running command is run in as many steps as it has segments on its path. -/
theorem run_segments {w : Word} {c : Code Unit} (hc : c.Ends) {s : State} {answers : List Answer}
    (hs : Running w answers s) (hafter : (wordCode w).after answers = c) :
    ∃ n, 1 ≤ n ∧ core.run n s = .next (c.run s).2 ∧ (c.run s).2.busy = false ∧
      (c.run s).2.seq = .idle ∧ ∀ m, m < n → ∃ (u : State) (later : List Answer),
        core.run m s = .next u ∧ Running w later u ∧ later.length = answers.length + m ∧
        u.host = s.host := by
  induction c generalizing s answers with
  | ret a => exact hc.elim
  | seg effect next ih =>
    have hstep : step s = .next (segment effect s).2 := by
      rw [step_of_busy hs.busy, runSegment_of_seg hs.seq hafter]
    have hhere : ∃ (u : State) (later : List Answer), core.run 0 s = .next u ∧ Running w later u ∧
        later.length = answers.length + 0 ∧ u.host = s.host := ⟨s, answers, rfl, hs, rfl, rfl⟩
    obtain ⟨hon, hends⟩ | ⟨hfin, hret⟩ := hc
    · obtain ⟨hbusy, hseq, hhost⟩ := segment_of_goesOn hon hs.seq
      obtain ⟨n, -, hrun, hdone, hidle, hbetween⟩ :=
        ih _ (hends _) ⟨hbusy.trans hs.busy, hseq⟩ (after_append_of_seg hafter _)
      refine ⟨n + 1, Nat.succ_pos n, (core_run_succ hstep n).trans hrun, hdone, hidle, fun m hm => ?_⟩
      cases m with
      | zero => exact hhere
      | succ m =>
        obtain ⟨u, later, hu, hrunning, hlength, huhost⟩ := hbetween m (Nat.lt_of_succ_lt_succ hm)
        refine ⟨u, later, (core_run_succ hstep m).trans hu, hrunning, ?_, huhost.trans hhost⟩
        rw [hlength, List.length_append, List.length_singleton]
        omega
    · obtain ⟨hbusy, hseq, -⟩ := segment_of_finishes hfin s
      have hrun : (Code.seg effect next).run s = ((), (segment effect s).2) := by
        rw [Code.run, hret, Code.run_ret]
      rw [hrun]
      refine ⟨1, le_rfl, core_run_succ hstep 0, hbusy, hseq, fun m hm => ?_⟩
      obtain rfl : m = 0 := by omega
      exact hhere

/-- The whole of an offered word's command in one step (R111). -/
theorem runWord_eq (w : Word) (s : State) :
    runWord w s = .next ((wordCode w).run (acceptWord w s)).2 := by
  unfold runWord wordCode
  split <;> simp [*, exec_eq]

/-- Settles O8: after the acceptance each step is the next segment of what is left. -/
theorem segmentsMakeTheCommand : Obligations.SegmentsMakeTheCommand := by
  intro s w rest hbusy hhost
  have haccept := step_of_accept hbusy hhost
  obtain ⟨n, hpos, hrun, hdone, hidle, hbetween⟩ := run_segments (wordCode_ends w)
    (s := acceptWord w { s with host := rest }) (answers := []) ⟨rfl, rfl⟩ (by cases wordCode w <;> rfl)
  refine ⟨n, _, hpos, ?_, ?_, hdone, hidle, fun m hm => ?_⟩
  · rw [Nat.add_comm]
    exact (core_run_succ haccept n).trans hrun
  · exact (step_of_offer (s := { s with host := .offer w :: rest }) hbusy rfl).trans (runWord_eq w _)
  · obtain ⟨u, later, hu, hrunning, hlength, huhost⟩ := hbetween m hm
    refine ⟨u, later, ?_, hrunning.busy, hrunning.seq, ?_, huhost⟩
    · rw [Nat.add_comm]
      exact (core_run_succ haccept m).trans hu
    · rw [hrunning.seq, Seq.index, hlength, List.length_nil, Nat.zero_add]

end Machine

end Sys2Proof
end

section
/-! PARSE, read by read (R151 to R166). -/

namespace Sys2Proof

namespace Machine

/-! ### What the sample clock does not see of the device -/

/-- `s` with the device's cursor and the record of its answers (log 6) taken from `d`. -/
def State.withDeviceOf (s d : State) : State := { s with cur := d.cur, readScript := d.readScript }

theorem timerStep_withDeviceOf (s d : State) :
    timerStep (s.withDeviceOf d) = (timerStep s).withDeviceOf d := by
  by_cases h : s.tcnt = s.reloadActive
  · rw [timerStep_of_eq h, timerStep_of_eq (s := s.withDeviceOf d) h]
    rfl
  · rw [timerStep_of_ne h, timerStep_of_ne (s := s.withDeviceOf d) h]
    rfl

theorem pop_withDeviceOf (s d : State) :
    pop (s.withDeviceOf d) = ((pop s).1, (pop s).2.withDeviceOf d) := by
  obtain h | h := Nat.eq_zero_or_pos s.count.toNat
  · rw [pop_of_eq_zero h, pop_of_eq_zero (s := s.withDeviceOf d) h]
  · rw [pop_of_pos h, pop_of_pos (s := s.withDeviceOf d) h]
    rfl

theorem tick_withDeviceOf (s d : State) : tick (s.withDeviceOf d) = (tick s).withDeviceOf d := by
  rw [tick, pop_withDeviceOf]
  rfl

theorem interruptEntry_withDeviceOf (s d : State) :
    interruptEntry (s.withDeviceOf d) = (interruptEntry s).withDeviceOf d := by
  have hdue : interruptDue (s.withDeviceOf d) = interruptDue s := rfl
  cases h : interruptDue s with
  | false => rw [interruptEntry_of_not_due h, interruptEntry_of_not_due (hdue.trans h)]
  | true =>
    rw [interruptEntry_of_due h, interruptEntry_of_due (hdue.trans h), ← tick_withDeviceOf]
    rfl

theorem runTimer_withDeviceOf (n : Nat) (s d : State) :
    runTimer n (s.withDeviceOf d) = (runTimer n s).withDeviceOf d := by
  induction n generalizing s with
  | zero => rfl
  | succ n ih => rw [runTimer, timerStep_withDeviceOf, interruptEntry_withDeviceOf, ih, runTimer]

theorem gap_withDeviceOf (s d : State) : gap (s.withDeviceOf d) = (gap s).withDeviceOf d := by
  have hdraw : drawTimerSteps (s.withDeviceOf d) =
      ((drawTimerSteps s).1, (drawTimerSteps s).2.withDeviceOf d) := by
    simp only [drawTimerSteps, State.withDeviceOf]
    cases s.timerScript <;> rfl
  rw [gap, hdraw, interruptEntry_withDeviceOf, runTimer_withDeviceOf, gap]

/-! ### The frame -/

/-- `t` is reached from `s` by the sample clock alone, but for the command port, and the device's cursor and
answers. -/
def ClockBeside (s t : State) : Prop :=
  ∃ u p d, ClockRun s u ∧ t = (u.withPortOf p).withDeviceOf d

theorem ClockBeside.gap {s t : State} (h : ClockBeside s t) : ClockBeside s (gap t) := by
  obtain ⟨u, p, d, hu, rfl⟩ := h
  obtain ⟨v, q, hv, hgap⟩ := exists_clockRun_gap u p
  exact ⟨v, q, d, hu.trans hv, by rw [gap_withDeviceOf, hgap]⟩

theorem ClockBeside.advanceSeq {s t : State} (h : ClockBeside s t) (a : Answer) :
    ClockBeside s (advanceSeq a t) := by
  obtain ⟨u, p, d, hu, rfl⟩ := h
  exact ⟨u, Machine.advanceSeq a (u.withPortOf p), d, hu, rfl⟩

theorem ClockBeside.stSeek {s t : State} (h : ClockBeside s t) (pos : Nat) :
    ClockBeside s (stSeek pos t) := by
  obtain ⟨u, p, d, hu, rfl⟩ := h
  exact ⟨u, p, Machine.stSeek pos ((u.withPortOf p).withDeviceOf d), hu, rfl⟩

theorem ClockBeside.stRead {s t : State} (h : ClockBeside s t) (n : Nat) :
    ClockBeside s (stRead n t).2 := by
  obtain ⟨u, p, d, hu, rfl⟩ := h
  refine ⟨u, (Machine.stRead n ((u.withPortOf p).withDeviceOf d)).2,
    (Machine.stRead n ((u.withPortOf p).withDeviceOf d)).2, hu, ?_⟩
  simp only [Machine.stRead, drawReadCount, State.withDeviceOf]
  cases d.readScript <;> rfl

theorem parse_clockBeside (s : State) : ClockBeside s (parse.run s).2 := by
  have hsteps : ParseSteps fun a b => ClockBeside s a → ClockBeside s b :=
    ⟨fun _ h => h, fun n _ h => h.stRead n, fun p _ h => h.stSeek p⟩
  exact hsteps.parse.run (fun _ h => h) (fun h k x => k (h x)) (fun _ h => h.gap)
    (fun a _ h => h.advanceSeq a) s ⟨s, s, s, .done s, rfl⟩

/-- Settles O27: every segment of PARSE reads, seeks or computes, beside the sample clock. -/
theorem parseWritesNoRegister : Obligations.ParseWritesNoRegister := by
  intro s
  obtain ⟨u, p, d, hrun, ht⟩ := parse_clockBeside s
  have hstatus : (parse.run s).2.respStatus = s.respStatus :=
    parse_streamOnly.field s State.respStatus fun _ => rfl
  have hvalue : (parse.run s).2.respValue = s.respValue :=
    parse_streamOnly.field s State.respValue fun _ => rfl
  have hvalid : (parse.run s).2.respValid = s.respValid :=
    parse_streamOnly.field s State.respValid fun _ => rfl
  have hbusy : (parse.run s).2.busy = s.busy := parse_streamOnly.field s State.busy fun _ => rfl
  generalize (parse.run s).2 = t at *
  subst ht
  have hframe := hrun.eq_withClockOf
  have hport : p.respStatus = s.respStatus ∧ p.respValue = s.respValue ∧ p.respValid = s.respValid ∧
    p.busy = s.busy := ⟨hstatus, hvalue, hvalid, hbusy⟩
  refine ⟨?frame, hrun.noTick, u, hrun, ?clock⟩
  case frame =>
    conv_lhs => rw [hframe]
    simp [State.withPortOf, State.withDeviceOf, State.withClockOf, hport]
  case clock =>
    have hu : u.respStatus = s.respStatus ∧ u.respValue = s.respValue ∧ u.respValid = s.respValid ∧
        u.busy = s.busy := by
      rw [hframe]
      exact ⟨rfl, rfl, rfl, rfl⟩
    simp [State.withPortOf, State.withDeviceOf, hport, hu]

/-! ### Reads of a file -/

/-- The file is open and the cursor stands at `p`. -/
structure At (file : List Byte) (p : Nat) (s : State) : Prop where
  bytes : openBytes s = file
  cur : s.cur.toNat = p

/-- What the sample clock, the sequencer and all else but the device leave alone. -/
theorem At.congr {file : List Byte} {p : Nat} {s t : State} (h : At file p s) (hfiles : t.files = s.files)
    (hopen : t.openFile = s.openFile) (hcur : t.cur = s.cur) : At file p t :=
  ⟨(openBytes_congr hfiles hopen).trans h.bytes, hcur ▸ h.cur⟩

theorem At.gap {file : List Byte} {p : Nat} {s : State} (h : At file p s) : At file p (gap s) :=
  h.congr (by simp) (by simp) (by simp)

/-- The time before a segment that leaves the device alone, and the move of the sequencer after it. -/
theorem At.segment {file : List Byte} {p : Nat} {s : State} (h : At file p s) (a : Answer) :
    At file p (advanceSeq a (Machine.gap s)) :=
  h.gap.congr (by simp) (by simp) (by simp)

/-- The bytes `p .. p + n - 1` of a file. -/
def slice (file : List Byte) (p n : Nat) : List Byte := (file.drop p).take n

theorem length_slice {file : List Byte} {p n : Nat} (h : p + n ≤ file.length) :
    (slice file p n).length = n := by
  simp only [slice, List.length_take, List.length_drop]
  omega

section

variable {file : List Byte} {p : Nat} {s : State}

/-- A read of some bytes that delivers all of them delivers those at the cursor, and moves past them. -/
theorem At.read (h : At file p s) (hfile : file.length ≤ 2 ^ 32 - 1) {n : Nat} (hn : 0 < n)
    (hlen : ((Code.read n).run s).1.length = n) :
    p + n ≤ file.length ∧ ((Code.read n).run s).1 = slice file p n ∧
      At file (p + n) ((Code.read n).run s).2 := by
  have hgap := h.gap
  obtain ⟨k, hk, hbytes, hcur⟩ := stRead_bytes n (Machine.gap s)
  have hread : ((Code.read n).run s).1 = (stRead n (Machine.gap s)).1 := rfl
  rw [hgap.bytes, hgap.cur] at hbytes
  rw [hread] at hlen
  have hcount : min k (file.length - p) = n := by
    rw [← hlen, hbytes, List.length_take, List.length_drop]
  have hkn : k = n := by omega
  have hend : p + n ≤ file.length := by omega
  have hmoved : (stRead n (Machine.gap s)).2.cur.toNat = p + n := by
    rw [hcur, hgap.cur, hlen]
    exact Nat.mod_eq_of_lt (by omega)
  refine ⟨hend, by rw [hread, hbytes, hkn, slice], ?_, ?_⟩
  · refine (openBytes_congr ?_ ?_).trans h.bytes <;> simp
  · simpa using hmoved

/-- READ(n) fails, or goes on with the bytes at the cursor, whatever comes next (R151). -/
theorem At.readThen (h : At file p s) (hfile : file.length ≤ 2 ^ 32 - 1) {n : Nat} (hn : 0 < n) :
    (∃ t, ∀ next, (readThen n next).run s = (.formatFail, t)) ∨
      p + n ≤ file.length ∧ ∃ t, At file (p + n) t ∧
        ∀ next, (readThen n next).run s = (next (slice file p n)).run t := by
  have hle : ((Code.read n).run s).1.length ≤ n := stRead_length n _
  obtain hlt | heq := Nat.lt_or_eq_of_le hle
  · refine .inl ⟨((Code.read n).run s).2, fun next => ?_⟩
    obtain ⟨-, hrun⟩ | ⟨hlen, -⟩ := readThen_cases n next s
    · exact hrun
    · omega
  · obtain ⟨hend, hbytes, hat⟩ := h.read hfile hn heq
    refine .inr ⟨hend, _, hat, fun next => ?_⟩
    obtain ⟨hlt, -⟩ | ⟨-, hrun⟩ := readThen_cases n next s
    · omega
    · rw [hrun, hbytes]

/-- SKIP(n) fails, or goes on behind the bytes skipped, whatever comes next (R151). -/
theorem At.skipThen (h : At file p s) (n : Nat) :
    (∃ t, ∀ next, (skipThen n next).run s = (.formatFail, t)) ∨
      ∃ t, At file (p + n) t ∧ ∀ next, (skipThen n next).run s = next.run t := by
  have hpos : ((Code.number fun s => stTell s + n).run s).1 = p + n := by
    rw [Code.run_number, stTell, h.gap.cur]
  obtain hle | hgt := le_or_gt (p + n) Config.offsetMax
  · have hrun : ∀ next, (Machine.skipThen n next).run s = next.run (advanceSeq (.flag true)
        (stSeek (p + n) (Machine.gap ((Code.number fun s => stTell s + n).run s).2))) := fun next => by
      obtain ⟨hlt, -⟩ | ⟨-, hrun⟩ := skipThen_cases n next s
      · rw [hpos] at hlt
        omega
      · rw [hrun, hpos]
    refine .inr ⟨_, ⟨?_, ?_⟩, hrun⟩
    · refine (openBytes_congr ?_ ?_).trans h.bytes <;> simp
    · have hlt : p + n < 2 ^ 32 := Nat.lt_succ_of_le hle
      simpa using Nat.mod_eq_of_lt hlt
  · refine .inl ⟨advanceSeq (.flag false) (Machine.gap ((Code.number fun s => stTell s + n).run s).2),
      fun next => ?_⟩
    obtain ⟨-, hrun⟩ | ⟨hle, -⟩ := skipThen_cases n next s
    · exact hrun
    · rw [hpos] at hle
      omega

/-- A test leaves the cursor where it is. -/
theorem At.ask (h : At file p s) (b : Bool) :
    ∃ t, At file p t ∧ ∀ f : Bool → Code ParseResult,
      ((Code.ask fun _ => b).bind f).run s = (f b).run t :=
  ⟨_, h.segment _, run_ask_bind rfl⟩

/-- An assignment leaves the cursor where it is. -/
theorem At.assign (h : At file p s) :
    ∃ t, At file p t ∧ ∀ c : Code ParseResult, (Code.assign.andThen c).run s = c.run t :=
  ⟨_, h.segment .done, fun _ => Code.run_andThen ..⟩

end

/-! ### Wrong tags -/

/-- Settles O26: PARSE reads the two tags at 0 and at 8 before it does anything else. -/
theorem parseRejectsWrongTags : Obligations.ParseRejectsWrongTags := by
  intro s hcur hfile htags
  have hat : At (openBytes s) 0 s := ⟨rfl, congrArg BitVec.toNat hcur⟩
  unfold parse
  obtain ⟨_, hfail⟩ | ⟨-, t, ht, hrun⟩ := hat.readThen hfile (n := 4) (by decide)
  · rw [hfail]
  rw [hrun]
  split
  case isFalse => rfl
  case isTrue hriff =>
    obtain ⟨_, hfail⟩ | ⟨-, u, hu, hrun⟩ := ht.readThen hfile (n := 4) (by decide)
    · rw [hfail]
    rw [hrun]
    obtain ⟨_, hfail⟩ | ⟨-, v, hv, hrun⟩ := hu.readThen hfile (n := 4) (by decide)
    · rw [hfail]
    have hwave : slice (openBytes s) 8 4 ≠ tagWave := htags.resolve_left fun h => h hriff
    rw [hrun, if_neg hwave]
    rfl

/-! ### One round of the scan -/

/-- The size that the chunk header at `p` declares (R154). -/
def chunkSizeAt (file : List Byte) (p : Nat) : Nat := littleEndian (slice file (p + 4) 4)

/-- The fields of the fmt chunk at `p` (R155). -/
def fmtAt (file : List Byte) (p : Nat) : FmtInfo :=
  ⟨true, littleEndian (slice file (p + 8) 2), littleEndian (slice file (p + 10) 2),
    littleEndian (slice file (p + 12) 4), littleEndian (slice file (p + 22) 2)⟩

section

variable {file : List Byte} {p : Nat} {s : State}

/-- The body of a fmt chunk fails, or goes on behind the chunk with its fields (R155, R156). -/
theorem At.fmtBodyThen (h : At file (p + 8) s) (hfile : file.length ≤ 2 ^ 32 - 1) {sz : Nat}
    (hsz : 16 ≤ sz) :
    (∃ t, ∀ next, (fmtBodyThen sz next).run s = (.formatFail, t)) ∨
      ∃ t, At file (p + 8 + sz) t ∧ ∀ next, (fmtBodyThen sz next).run s = (next (fmtAt file p)).run t := by
  unfold Machine.fmtBodyThen
  obtain ⟨t, hfail⟩ | ⟨-, t2, h2, hrun2⟩ := h.readThen hfile (n := 2) (by decide)
  · exact .inl ⟨t, fun _ => hfail _⟩
  obtain ⟨t, hfail⟩ | ⟨-, t4, h4, hrun4⟩ := h2.readThen hfile (n := 2) (by decide)
  · exact .inl ⟨t, fun _ => by rw [hrun2, hfail]⟩
  obtain ⟨t, hfail⟩ | ⟨-, t8, h8, hrun8⟩ := h4.readThen hfile (n := 4) (by decide)
  · exact .inl ⟨t, fun _ => by rw [hrun2, hrun4, hfail]⟩
  obtain ⟨t, hfail⟩ | ⟨-, t12, h12, hrun12⟩ := h8.readThen hfile (n := 4) (by decide)
  · exact .inl ⟨t, fun _ => by rw [hrun2, hrun4, hrun8, hfail]⟩
  obtain ⟨t, hfail⟩ | ⟨-, t14, h14, hrun14⟩ := h12.readThen hfile (n := 2) (by decide)
  · exact .inl ⟨t, fun _ => by rw [hrun2, hrun4, hrun8, hrun12, hfail]⟩
  obtain ⟨t, hfail⟩ | ⟨-, t16, h16, hrun16⟩ := h14.readThen hfile (n := 2) (by decide)
  · exact .inl ⟨t, fun _ => by rw [hrun2, hrun4, hrun8, hrun12, hrun14, hfail]⟩
  obtain ⟨t, hfail⟩ | ⟨u, hu, hrunu⟩ := h16.skipThen (sz - 16)
  · exact .inl ⟨t, fun _ => by rw [hrun2, hrun4, hrun8, hrun12, hrun14, hrun16, hfail]⟩
  obtain ⟨v, hv, hrunv⟩ := hu.assign
  have hend : p + 8 + 2 + 2 + 4 + 4 + 2 + 2 + (sz - 16) = p + 8 + sz := by omega
  refine .inr ⟨v, hend ▸ hv, fun _ => ?_⟩
  rw [hrun2, hrun4, hrun8, hrun12, hrun14, hrun16, hrunu, hrunv]
  rfl

/-- What a round of the scan does at a chunk, whatever the bound on the rounds left (R154 to R161): it fails,
or it goes on behind a fmt chunk with its fields, answers at a data chunk, or goes on behind another. -/
theorem At.parseLoop (h : At file p s) (hfile : file.length ≤ 2 ^ 32 - 1) (f : FmtInfo) :
    (∃ t, ∀ fuel, (parseLoop (fuel + 1) f).run s = (.formatFail, t)) ∨
    p + 8 ≤ file.length ∧
      ((slice file p 4 = tagFmt ∧ 16 ≤ chunkSizeAt file p ∧ ∃ t, At file (p + 8 + chunkSizeAt file p) t ∧
          ∀ fuel, (parseLoop (fuel + 1) f).run s = (parseLoop fuel (fmtAt file p)).run t) ∨
        (slice file p 4 = tagData ∧ ∃ t, At file (p + 8) t ∧
          ∀ fuel, (parseLoop (fuel + 1) f).run s = (parseData f (chunkSizeAt file p)).run t) ∨
        ∃ t, At file (p + 8 + chunkSizeAt file p) t ∧
          ∀ fuel, (parseLoop (fuel + 1) f).run s = (parseLoop fuel f).run t) := by
  simp only [Machine.parseLoop]
  obtain ⟨t, hfail⟩ | ⟨-, t4, h4, hrun4⟩ := h.readThen hfile (n := 4) (by decide)
  · exact .inl ⟨t, fun _ => hfail _⟩
  obtain ⟨t, hfail⟩ | ⟨hend, t8, h8, hrun8⟩ := h4.readThen hfile (n := 4) (by decide)
  · exact .inl ⟨t, fun _ => by rw [hrun4, hfail]⟩
  simp only [hrun4, hrun8]
  obtain ⟨u, hu, hrunu⟩ := h8.ask (decide (slice file p 4 = tagFmt))
  simp only [hrunu, decide_eq_true_eq]
  by_cases hfmt : slice file p 4 = tagFmt
  · simp only [if_pos hfmt]
    obtain ⟨v, hv, hrunv⟩ := hu.ask (decide (littleEndian (slice file (p + 4) 4) < 16))
    simp only [hrunv, decide_eq_true_eq]
    by_cases hshort : littleEndian (slice file (p + 4) 4) < 16
    · exact .inl ⟨v, fun _ => by rw [if_pos hshort]; rfl⟩
    · have hsz : 16 ≤ chunkSizeAt file p := Nat.le_of_not_lt hshort
      simp only [if_neg hshort]
      obtain ⟨t, hfail⟩ | ⟨t, ht, hrun⟩ := hv.fmtBodyThen hfile hsz
      · exact .inl ⟨t, fun _ => hfail _⟩
      · exact .inr ⟨hend, .inl ⟨hfmt, hsz, t, ht, fun _ => hrun _⟩⟩
  · simp only [if_neg hfmt]
    obtain ⟨v, hv, hrunv⟩ := hu.ask (decide (slice file p 4 = tagData))
    simp only [hrunv, decide_eq_true_eq]
    by_cases hdata : slice file p 4 = tagData
    · exact .inr ⟨hend, .inr (.inl ⟨hdata, v, hv, fun _ => by rw [if_pos hdata]; rfl⟩)⟩
    · simp only [if_neg hdata]
      obtain ⟨t, hfail⟩ | ⟨t, ht, hrun⟩ := hv.skipThen (chunkSizeAt file p)
      · exact .inl ⟨t, fun _ => hfail _⟩
      · exact .inr ⟨hend, .inr (.inr ⟨t, ht, fun _ => hrun _⟩)⟩

end

/-! ### The bound on the rounds -/

/-- Each round begins at least 8 bytes further on, and none begins behind the file. -/
theorem At.parseLoop_fuel {file : List Byte} (hfile : file.length ≤ 2 ^ 32 - 1) (m n : Nat) {p : Nat}
    {s : State} (h : At file p s) (f : FmtInfo) (hm : (file.length - p) / 8 + 1 ≤ m)
    (hn : (file.length - p) / 8 + 1 ≤ n) :
    (Machine.parseLoop m f).run s = (Machine.parseLoop n f).run s := by
  induction m generalizing n p s f with
  | zero => omega
  | succ m ih =>
    obtain ⟨n, rfl⟩ : ∃ k, n = k + 1 := ⟨n - 1, by omega⟩
    obtain ⟨t, hfail⟩ | ⟨hend, hround⟩ := h.parseLoop hfile f
    · rw [hfail, hfail]
    · obtain ⟨-, -, t, ht, hrun⟩ | ⟨-, t, -, hrun⟩ | ⟨t, ht, hrun⟩ := hround
      · rw [hrun, hrun]
        exact ih n ht _ (by omega) (by omega)
      · rw [hrun, hrun]
      · rw [hrun, hrun]
        exact ih n ht _ (by omega) (by omega)

/-- Settles O30: a file of legal length has no more chunks than an eighth of its bytes. -/
theorem parseFuelSuffices : Obligations.ParseFuelSuffices := by
  intro s f n hfile
  have hbound : (openBytes s).length / 8 + 1 ≤ parseBound := by
    unfold parseBound
    omega
  exact ⟨hbound, fun hn =>
    At.parseLoop_fuel hfile n _ (p := s.cur.toNat) ⟨rfl, rfl⟩ f (by omega) (by omega)⟩

/-! ### A successful parse -/

/-- If a fmt chunk has been read, its fields are kept, and it lies before `p`. -/
def FmtSeen (file : List Byte) (p : Nat) (f : FmtInfo) : Prop :=
  f.seen = true → ∃ q, q + 8 + chunkSizeAt file q ≤ p ∧ slice file q 4 = tagFmt ∧
    16 ≤ chunkSizeAt file q ∧ f = fmtAt file q

theorem FmtSeen.mono {file : List Byte} {p q : Nat} {f : FmtInfo} (h : FmtSeen file p f) (hpq : p ≤ q) :
    FmtSeen file q f := fun hseen => by
  obtain ⟨r, hr, hrest⟩ := h hseen
  exact ⟨r, hr.trans hpq, hrest⟩

/-- What a successful scan has found: a data header at `d`, and before it a playable fmt chunk at `q`. -/
structure Found (file : List Byte) (d q : Nat) (start size rate : Word) : Prop where
  header_le : d + 8 ≤ file.length
  data : slice file d 4 = tagData
  start_eq : start = BitVec.ofNat 32 (d + 8)
  size_eq : size = BitVec.ofNat 32 (chunkSizeAt file d)
  before : q + 8 + chunkSizeAt file q ≤ d
  fmt : slice file q 4 = tagFmt
  fmt_size : 16 ≤ chunkSizeAt file q
  playable : (fmtAt file q).playable = true
  rate_eq : rate = BitVec.ofNat 32 (fmtAt file q).sampleRate

/-- The answer at a data chunk, and the cursor just behind its header (R157, R160). -/
theorem At.parseData {file : List Byte} {p : Nat} {s : State} (h : At file p s) (f : FmtInfo) (sz : Nat) :
    ((parseData f sz).run s).1 = (if f.playable then
      .ok (BitVec.ofNat 32 p) (BitVec.ofNat 32 sz) (BitVec.ofNat 32 f.sampleRate) else .formatFail) ∧
      At file p ((parseData f sz).run s).2 := by
  have hstart : stTell (Machine.gap s) = p := h.gap.cur
  have hrun : (Machine.parseData f sz).run s = ((if f.playable then
      .ok (BitVec.ofNat 32 p) (BitVec.ofNat 32 sz) (BitVec.ofNat 32 f.sampleRate) else .formatFail),
      ((Code.ask fun _ => f.playable).run ((Code.number stTell).run s).2).2) := by
    rw [← hstart]
    rfl
  rw [hrun]
  exact ⟨rfl, (h.segment _).segment _⟩

/-- The scan answers Ok only where it has found both chunks. -/
theorem At.parseLoop_ok {file : List Byte} (hfile : file.length ≤ 2 ^ 32 - 1) (fuel : Nat) {p : Nat}
    {s : State} {f : FmtInfo} {start size rate : Word} (h : At file p s) (hf : FmtSeen file p f)
    (hok : ((Machine.parseLoop fuel f).run s).1 = .ok start size rate) :
    ∃ d q, Found file d q start size rate ∧ At file (d + 8) ((Machine.parseLoop fuel f).run s).2 := by
  induction fuel generalizing p s f with
  | zero => cases hok
  | succ fuel ih =>
    obtain ⟨t, hfail⟩ | ⟨hend, hround⟩ := h.parseLoop hfile f
    · rw [hfail] at hok
      cases hok
    obtain ⟨hfmt, hsz, t, ht, hrun⟩ | ⟨hdata, t, ht, hrun⟩ | ⟨t, ht, hrun⟩ := hround
    · rw [hrun] at hok ⊢
      exact ih ht (fun _ => ⟨p, le_rfl, hfmt, hsz, rfl⟩) hok
    · obtain ⟨hanswer, hat⟩ := ht.parseData f (chunkSizeAt file p)
      rw [hrun] at hok ⊢
      rw [hanswer] at hok
      split at hok
      case isFalse => cases hok
      case isTrue hplayable =>
        have hseen : f.seen = true := by
          simp only [FmtInfo.playable, Bool.and_eq_true] at hplayable
          exact hplayable.1.1.1
        obtain ⟨q, hbefore, hfmt, hsz, rfl⟩ := hf hseen
        cases hok
        exact ⟨p, q, ⟨hend, hdata, rfl, rfl, hbefore, hfmt, hsz, hplayable, rfl⟩, hat⟩
    · rw [hrun] at hok ⊢
      exact ih ht (hf.mono (by omega)) hok

/-- PARSE fails, or scans the chunks from byte 12 on (R152 to R154). -/
theorem At.parse {file : List Byte} (hfile : file.length ≤ 2 ^ 32 - 1) {p : Nat} {s : State}
    (h : At file p s) : (parse.run s).1 = .formatFail ∨
      ∃ t, At file (p + 12) t ∧ parse.run s = (Machine.parseLoop parseBound noFmt).run t := by
  unfold Machine.parse
  obtain ⟨_, hfail⟩ | ⟨-, t4, h4, hrun4⟩ := h.readThen hfile (n := 4) (by decide)
  · exact .inl (by rw [hfail])
  rw [hrun4]
  split
  case isFalse => exact .inl rfl
  obtain ⟨_, hfail⟩ | ⟨-, t8, h8, hrun8⟩ := h4.readThen hfile (n := 4) (by decide)
  · exact .inl (by rw [hfail])
  rw [hrun8]
  obtain ⟨_, hfail⟩ | ⟨-, t12, h12, hrun12⟩ := h8.readThen hfile (n := 4) (by decide)
  · exact .inl (by rw [hfail])
  rw [hrun12]
  split
  case isFalse => exact .inl rfl
  obtain ⟨t, ht, hrun⟩ := h12.assign
  obtain ⟨u, hu, hrunu⟩ := ht.assign
  obtain ⟨v, hv, hrunv⟩ := hu.assign
  obtain ⟨w, hw, hrunw⟩ := hv.assign
  obtain ⟨x, hx, hrunx⟩ := hw.assign
  exact .inr ⟨x, hx, by rw [hrun, hrunu, hrunv, hrunw, hrunx]⟩

/-- A successful PARSE has found both chunks, and its cursor stands behind the data header. -/
theorem parse_ok {s : State} {start size rate : Word} (hfile : (openBytes s).length ≤ 2 ^ 32 - 1)
    (hok : (parse.run s).1 = .ok start size rate) :
    ∃ d q, Found (openBytes s) d q start size rate ∧
      At (openBytes s) (d + 8) (parse.run s).2 := by
  have hat : At (openBytes s) s.cur.toNat s := ⟨rfl, rfl⟩
  obtain hfail | ⟨t, ht, hrun⟩ := hat.parse hfile
  · rw [hfail] at hok
    cases hok
  · rw [hrun] at hok ⊢
    exact ht.parseLoop_ok hfile _ (fun h => absurd h (by decide)) hok

theorem littleEndian_lt (bs : List Byte) : littleEndian bs < 256 ^ bs.length := by
  induction bs with
  | nil => decide
  | cons b bs ih =>
    have hb : b.toNat < 256 := b.isLt
    rw [littleEndian, List.length_cons, pow_succ]
    omega

/-- 32 bits hold the value of four bytes. -/
theorem toNat_ofNat_littleEndian (file : List Byte) (p : Nat) :
    (BitVec.ofNat 32 (littleEndian (slice file p 4))).toNat = littleEndian (slice file p 4) := by
  have hlen : (slice file p 4).length ≤ 4 := List.length_take_le ..
  exact Nat.mod_eq_of_lt ((littleEndian_lt _).trans_le (Nat.pow_le_pow_right (by decide) hlen))

/-- Settles O28: the scan answers at a data chunk, just behind its header. -/
theorem parseOkStopsAtData : Obligations.ParseOkStopsAtData := by
  intro s start size rate hfile hok
  obtain ⟨d, q, h, hat⟩ := parse_ok hfile hok
  have hlt : d + 8 < 2 ^ 32 := by
    have hle := h.header_le
    omega
  have hstart : start.toNat = d + 8 := by
    rw [h.start_eq]
    exact Nat.mod_eq_of_lt hlt
  refine ⟨by omega, ?_, ?_, ?_⟩
  · rw [hstart]
    exact h.data
  · rw [hstart, h.size_eq]
    exact (toNat_ofNat_littleEndian _ _).symm
  · exact BitVec.eq_of_toNat_eq (hat.cur.trans hstart.symm)

/-- Settles O29: the scan answers Ok only with the fields of a playable fmt chunk that it has passed. -/
theorem parseOkSawPlayableFmt : Obligations.ParseOkSawPlayableFmt := by
  intro s start size rate hfile hok
  obtain ⟨d, q, h, -⟩ := parse_ok hfile hok
  have hle := h.header_le
  have hlt : d + 8 < 2 ^ 32 := by omega
  have hstart : start.toNat = d + 8 := by
    rw [h.start_eq]
    exact Nat.mod_eq_of_lt hlt
  have hplayable := h.playable
  simp only [FmtInfo.playable, Bool.and_eq_true, beq_iff_eq] at hplayable
  obtain ⟨⟨⟨-, hformat⟩, hchannels⟩, hbits⟩ := hplayable
  have hbefore := h.before
  refine ⟨q, ?_, h.fmt, h.fmt_size, hformat, hchannels, ?_, hbits⟩
  · have hsz : chunkSizeAt (openBytes s) q = littleEndian (((openBytes s).drop (q + 4)).take 4) := rfl
    omega
  · rw [h.rate_eq]
    exact (toNat_ofNat_littleEndian _ _).symm

/-! ### A canonical file from a faithful device -/

theorem timerScript_drawTimerSteps (s : State) :
    (drawTimerSteps s).2.timerScript = s.timerScript.drop 1 := by
  unfold drawTimerSteps
  split <;> simp [*]

/-- Each interval takes one number from the script (log 5). -/
theorem timerScript_gap (s : State) : (gap s).timerScript = s.timerScript.drop 1 := by
  simp [gap, timerScript_drawTimerSteps]

theorem timerScript_hold (s : State) : (hold s).timerScript = s.timerScript.drop 1 := by
  simp [hold, timerScript_drawTimerSteps]

/-- The file is open with the cursor at `p`, the device's next `k` answers are faithful, and `j` intervals
have passed since `s`. -/
structure Serving (file : List Byte) (p k j : Nat) (s t : State) : Prop where
  at_pos : At file p t
  faithful : FaithfulReads k t
  passed : t.timerScript = s.timerScript.drop j

theorem FaithfulReads.congr {k : Nat} {s t : State} (h : FaithfulReads k s)
    (hscript : t.readScript = s.readScript) : FaithfulReads k t := by
  simpa [FaithfulReads, hscript] using h

theorem FaithfulReads.exists_cons {k : Nat} {s : State} (h : FaithfulReads (k + 1) s) :
    ∃ m rest, s.readScript = m :: rest ∧ Config.chunkMax ≤ m ∧
      FaithfulReads k { s with readScript := rest } := by
  obtain ⟨hlen, hfaithful⟩ := h
  cases hscript : s.readScript with
  | nil => simp [hscript] at hlen
  | cons m rest =>
    rw [hscript] at hlen hfaithful
    exact ⟨m, rest, rfl, hfaithful m (by simp), Nat.le_of_succ_le_succ hlen,
      fun x hx => hfaithful x (by simp [hx])⟩

/-- A faithful device delivers all that is asked for, up to `CHUNK_MAX`, as far as the file reaches (R82). -/
theorem stRead_of_faithful {k n : Nat} {s : State} (h : FaithfulReads (k + 1) s)
    (hn : n ≤ Config.chunkMax) :
    (stRead n s).1 = slice (openBytes s) s.cur.toNat n ∧ FaithfulReads k (stRead n s).2 := by
  obtain ⟨m, rest, hscript, hm, hrest⟩ := h.exists_cons
  have hdraw : drawReadCount s = (m, { s with readScript := rest }) := by
    simp only [drawReadCount, hscript]
  have hmin : min n m = n := min_eq_left (hn.trans hm)
  constructor
  · simp only [stRead, hdraw, hmin, slice]
  · refine hrest.congr ?_
    simp only [stRead, hdraw]

section

variable {file : List Byte} {p k j : Nat} {s t : State}

theorem Serving.segment (h : Serving file p k j s t) (a : Answer) :
    Serving file p k (j + 1) s (advanceSeq a (gap t)) where
  at_pos := h.at_pos.segment a
  faithful := h.faithful.congr (by simp)
  passed := by
    simp only [advanceSeq_fields, timerScript_gap, h.passed, List.drop_drop]

theorem Serving.read (h : Serving file p (k + 1) j s t) {n : Nat} (hn : n ≤ Config.chunkMax)
    (hend : p + n ≤ file.length) (hlt : p + n < 2 ^ 32) :
    ((Code.read n).run t).1 = slice file p n ∧
      Serving file (p + n) k (j + 1) s ((Code.read n).run t).2 := by
  have hgap : At file p (gap t) := h.at_pos.gap
  have hready : FaithfulReads (k + 1) (gap t) := h.faithful.congr (by simp)
  obtain ⟨hbytes, hfaithful⟩ := stRead_of_faithful hready hn
  rw [hgap.bytes, hgap.cur] at hbytes
  obtain ⟨-, -, -, hcur⟩ := stRead_bytes n (gap t)
  rw [hbytes, length_slice hend, hgap.cur] at hcur
  refine ⟨hbytes, ⟨?_, ?_⟩, hfaithful.congr (by simp), ?_⟩
  · refine (openBytes_congr ?_ ?_).trans h.at_pos.bytes <;> simp
  · simpa [hcur] using hlt
  · simp only [Code.run_read, advanceSeq_fields, stRead_fields, timerScript_gap, h.passed,
      List.drop_drop]

theorem Serving.readThen (h : Serving file p (k + 1) j s t) {n : Nat} (hn : n ≤ Config.chunkMax)
    (hend : p + n ≤ file.length) (hlt : p + n < 2 ^ 32) :
    ∃ u, Serving file (p + n) k (j + 1) s u ∧
      ∀ next, (readThen n next).run t = (next (slice file p n)).run u := by
  obtain ⟨hbytes, hnext⟩ := h.read hn hend hlt
  refine ⟨_, hnext, fun next => ?_⟩
  obtain ⟨hshort, -⟩ | ⟨-, hrun⟩ := readThen_cases n next t
  · rw [hbytes, length_slice hend] at hshort
    omega
  · rw [hrun, hbytes]

theorem Serving.ask (h : Serving file p k j s t) (b : Bool) :
    ∃ u, Serving file p k (j + 1) s u ∧ ∀ f : Bool → Code ParseResult,
      ((Code.ask fun _ => b).bind f).run t = (f b).run u :=
  ⟨_, h.segment _, run_ask_bind rfl⟩

theorem Serving.assign (h : Serving file p k j s t) :
    ∃ u, Serving file p k (j + 1) s u ∧
      ∀ c : Code ParseResult, (Code.assign.andThen c).run t = c.run u :=
  ⟨_, h.segment .done, fun _ => Code.run_andThen ..⟩

/-- SKIP(0) leaves the cursor where it is. -/
theorem Serving.skipThen_zero (h : Serving file p k j s t) :
    ∃ u, Serving file p k (j + 2) s u ∧ ∀ c, (skipThen 0 c).run t = c.run u := by
  have hnumber := h.segment (.number (stTell (gap t) + 0))
  have hseek : stSeek (stTell (gap t) + 0) (gap ((Code.number fun s => stTell s + 0).run t).2) =
      gap ((Code.number fun s => stTell s + 0).run t).2 := by
    have hcur : BitVec.ofNat 32 (stTell (gap t) + 0) =
        (gap ((Code.number fun s => stTell s + 0).run t).2).cur := by
      simp [stTell]
    rw [stSeek, hcur]
  have hle : stTell (gap t) + 0 ≤ Config.offsetMax := Nat.le_of_lt_succ (gap t).cur.isLt
  refine ⟨_, hnumber.segment (.flag true), fun c => ?_⟩
  obtain ⟨hlt, -⟩ | ⟨-, hrun⟩ := skipThen_cases 0 c t
  · exact absurd hle (Nat.not_le_of_lt hlt)
  · rw [hrun]
    exact congrArg (fun u => c.run (advanceSeq (.flag true) u)) hseek

/-- A round at a fmt chunk of the canonical size: 8 reads and 13 segments (R155). -/
theorem Serving.parseLoop_fmt (h : Serving file p (k + 8) j s t)
    (hend : p + 24 ≤ file.length) (hlt : p + 24 < 2 ^ 32) (hfmt : slice file p 4 = tagFmt)
    (hsz : chunkSizeAt file p = 16) :
    ∃ u, Serving file (p + 24) k (j + 13) s u ∧
      ∀ fuel f, (parseLoop (fuel + 1) f).run t = (parseLoop fuel (fmtAt file p)).run u := by
  have hsz' : littleEndian (slice file (p + 4) 4) = 16 := hsz
  obtain ⟨t1, h1, hid⟩ := h.readThen (n := 4) (by decide) (by omega) (by omega)
  obtain ⟨t2, h2, hsize⟩ := h1.readThen (n := 4) (by decide) (by omega) (by omega)
  obtain ⟨t3, h3, hisFmt⟩ := h2.ask (decide (slice file p 4 = tagFmt))
  obtain ⟨t4, h4, hshort⟩ := h3.ask (decide (littleEndian (slice file (p + 4) 4) < 16))
  obtain ⟨t5, h5, hformat⟩ := h4.readThen (n := 2) (by decide) (by omega) (by omega)
  obtain ⟨t6, h6, hchannels⟩ := h5.readThen (n := 2) (by decide) (by omega) (by omega)
  obtain ⟨t7, h7, hrate⟩ := h6.readThen (n := 4) (by decide) (by omega) (by omega)
  obtain ⟨t8, h8, hbyteRate⟩ := h7.readThen (n := 4) (by decide) (by omega) (by omega)
  obtain ⟨t9, h9, halign⟩ := h8.readThen (n := 2) (by decide) (by omega) (by omega)
  obtain ⟨t10, h10, hbits⟩ := h9.readThen (n := 2) (by decide) (by omega) (by omega)
  obtain ⟨t11, h11, hskip⟩ := h10.skipThen_zero
  obtain ⟨t12, h12, hassign⟩ := h11.assign
  refine ⟨t12, h12, fun fuel f => ?_⟩
  rw [parseLoop, hid, hsize, hisFmt, if_pos (decide_eq_true hfmt), hshort, hsz', if_neg (by decide),
    fmtBodyThen, hformat, hchannels, hrate, hbyteRate, halign, hbits, Nat.sub_self, hskip, hassign]
  rfl

/-- A round at a data chunk: 2 reads and 4 segments, then the answer (R157). -/
theorem Serving.parseLoop_data (h : Serving file p (k + 2) j s t)
    (hend : p + 8 ≤ file.length) (hlt : p + 8 < 2 ^ 32) (hdata : slice file p 4 = tagData) :
    ∃ u, Serving file (p + 8) k (j + 4) s u ∧
      ∀ fuel f, (parseLoop (fuel + 1) f).run t = (parseData f (chunkSizeAt file p)).run u := by
  have hnot : slice file p 4 ≠ tagFmt := by
    rw [hdata]
    decide
  obtain ⟨t1, h1, hid⟩ := h.readThen (n := 4) (by decide) (by omega) (by omega)
  obtain ⟨t2, h2, hsize⟩ := h1.readThen (n := 4) (by decide) (by omega) (by omega)
  obtain ⟨t3, h3, hisFmt⟩ := h2.ask (decide (slice file p 4 = tagFmt))
  obtain ⟨t4, h4, hisData⟩ := h3.ask (decide (slice file p 4 = tagData))
  refine ⟨t4, h4, fun fuel f => ?_⟩
  rw [parseLoop, hid, hsize, hisFmt, if_neg (by simpa using hnot), hisData,
    if_pos (decide_eq_true hdata)]
  rfl

/-- The header up to the chunks: 3 reads and 8 segments (R152, R153). -/
theorem Serving.parse_header (h : Serving file 0 (k + 3) j s t) (hend : 12 ≤ file.length)
    (hriff : slice file 0 4 = tagRiff) (hwave : slice file 8 4 = tagWave) :
    ∃ u, Serving file 12 k (j + 8) s u ∧ parse.run t = (parseLoop parseBound noFmt).run u := by
  obtain ⟨t1, h1, hfirst⟩ := h.readThen (n := 4) (by decide) (by omega) (by omega)
  obtain ⟨t2, h2, hsecond⟩ := h1.readThen (n := 4) (by decide) (by omega) (by omega)
  obtain ⟨t3, h3, hthird⟩ := h2.readThen (n := 4) (by decide) (by omega) (by omega)
  obtain ⟨t4, h4, ha⟩ := h3.assign
  obtain ⟨t5, h5, hb⟩ := h4.assign
  obtain ⟨t6, h6, hc⟩ := h5.assign
  obtain ⟨t7, h7, hd⟩ := h6.assign
  obtain ⟨t8, h8, he⟩ := h7.assign
  refine ⟨t8, h8, ?_⟩
  rw [parse, hfirst, if_pos hriff, hsecond, hthird, if_pos hwave, ha, hb, hc, hd, he]

end

/-! ### The canonical header -/

theorem littleEndian_le32Bytes {n : Nat} (h : n < 2 ^ 32) : littleEndian (le32Bytes n) = n := by
  simp only [le32Bytes, littleEndian, BitVec.toNat_ofNat]
  omega

section

variable (riff rate byteRate size : Nat) (pcm : List Byte)

/-- A canonical file: the header of R166 and the data. -/
def canonicalFile : List Byte := canonicalHeader riff rate byteRate size ++ pcm

theorem length_canonicalFile : (canonicalFile riff rate byteRate size pcm).length = 44 + pcm.length := by
  rw [canonicalFile, List.length_append]
  rfl

/-- The bytes of the header that PARSE reads. -/
theorem slice_canonicalFile :
    let file := canonicalFile riff rate byteRate size pcm
    slice file 0 4 = tagRiff ∧ slice file 8 4 = tagWave ∧ slice file 12 4 = tagFmt ∧
      slice file 16 4 = le32Bytes 16 ∧ slice file 20 2 = [1, 0] ∧ slice file 22 2 = [1, 0] ∧
      slice file 24 4 = le32Bytes rate ∧ slice file 34 2 = [8, 0] ∧ slice file 36 4 = tagData ∧
      slice file 40 4 = le32Bytes size := by
  and_intros <;> rfl

end

/-- PARSE of a canonical file from a faithful device: 13 reads and 27 segments lead to the data (R166). -/
theorem Serving.parse_canonical {riff rate byteRate size k j : Nat} {pcm : List Byte} {s t : State}
    (hrate : rate < 2 ^ 32) (hsize : size < 2 ^ 32)
    (h : Serving (canonicalFile riff rate byteRate size pcm) 0 (k + 13) j s t) :
    (parse.run t).1 = .ok 44 (BitVec.ofNat 32 size) (BitVec.ofNat 32 rate) ∧
      Serving (canonicalFile riff rate byteRate size pcm) 44 k (j + 27) s (parse.run t).2 := by
  obtain ⟨hriff, hwave, hfmt, hsz, hformat, hchannels, hrateBytes, hbits, hdata, hsizeBytes⟩ :=
    slice_canonicalFile riff rate byteRate size pcm
  have hlen : 44 ≤ (canonicalFile riff rate byteRate size pcm).length := by
    rw [length_canonicalFile]
    omega
  generalize canonicalFile riff rate byteRate size pcm = file at *
  have hchunk : chunkSizeAt file 12 = 16 := by
    rw [chunkSizeAt, hsz]
    rfl
  have hdataSize : chunkSizeAt file 36 = size := by
    rw [chunkSizeAt, hsizeBytes, littleEndian_le32Bytes hsize]
  have hfields : fmtAt file 12 = ⟨true, 1, 1, rate, 8⟩ := by
    rw [fmtAt, hformat, hchannels, hrateBytes, hbits, littleEndian_le32Bytes hrate]
    rfl
  obtain ⟨t1, h1, hrun1⟩ := h.parse_header (by omega) hriff hwave
  obtain ⟨t2, h2, hrun2⟩ := h1.parseLoop_fmt (by omega) (by decide) hfmt hchunk
  obtain ⟨t3, h3, hrun3⟩ := h2.parseLoop_data (by omega) (by decide) hdata
  have hrun : parse.run t = (parseData ⟨true, 1, 1, rate, 8⟩ size).run t3 := by
    rw [hrun1, parseBound, hrun2, hfields, hrun3, hdataSize]
  obtain ⟨hanswer, -⟩ := h3.at_pos.parseData ⟨true, 1, 1, rate, 8⟩ size
  rw [hrun]
  exact ⟨hanswer, (h3.segment _).segment _⟩

/-- Settles O31: the canonical header leads PARSE through one fmt chunk to the data chunk. -/
theorem parseCanonicalHeader : Obligations.ParseCanonicalHeader := by
  intro s riff rate byteRate size pcm hrate hsize hcur hbytes hfaithful
  have hserving : Serving (canonicalFile riff rate byteRate size pcm) 0 (0 + 13) 0 s s :=
    ⟨⟨hbytes, congrArg BitVec.toNat hcur⟩, hfaithful, rfl⟩
  obtain ⟨hok, hend⟩ := hserving.parse_canonical hrate hsize
  exact ⟨hok, BitVec.eq_of_toNat_eq hend.at_pos.cur⟩

end Machine

end Sys2Proof
end

section
/-! The outcomes of START, and what each command does to the playback state (R230, R233, R301). -/

namespace Sys2Proof

namespace Machine

open Host

/-! ### START's three ways -/

/-- The state after StOpen in START (R233). -/
def opened (name : State → Name) (s : State) : State := ((Code.openFile name).run s).2

/-- The state after PARSE in START. -/
def parsed (name : State → Name) (s : State) : State := (parse.run (opened name s)).2

/-- The state after a failed parse and the close (R237). -/
def rejected (name : State → Name) (s : State) : State :=
  ((Code.write stClose).run ((Code.ask fun _ => true).run (parsed name s)).2).2

/-- The state after the commit of a successful parse (R238). -/
def committed (name : State → Name) (start size rate : Word) (s : State) : State :=
  ((Code.atomic (commitStream start size rate)).run
    (Code.assign.run ((Code.ask fun _ => false).run (parsed name s)).2).2).2

/-- START fails to open, fails to parse, or commits and primes (R233, R237 to R241). -/
theorem startStream_cases (name : State → Name) (s : State) :
    (((Code.openFile name).run s).1 = false ∧
      (startStream name).run s = (.openFail, opened name s)) ∨
    (((Code.openFile name).run s).1 = true ∧ (parse.run (opened name s)).1 = .formatFail ∧
      (startStream name).run s = (.formatFail, rejected name s)) ∨
    (((Code.openFile name).run s).1 = true ∧ ∃ start size rate,
      (parse.run (opened name s)).1 = .ok start size rate ∧
      (startStream name).run s =
        (.ok, (primeAndEnable.run (committed name start size rate s)).2)) := by
  cases hopen : ((Code.openFile name).run s).1 with
  | false =>
    refine .inl ⟨rfl, ?_⟩
    rw [startStream, Code.run_bind, hopen]
    rfl
  | true =>
    have hstart : (startStream name).run s =
        (startParsed (parse.run (opened name s)).1).run (parsed name s) := by
      rw [startStream, Code.run_bind, hopen, if_pos rfl, Code.run_bind]
      rfl
    cases hparse : (parse.run (opened name s)).1 with
    | formatFail =>
      refine .inr (.inl ⟨rfl, rfl, ?_⟩)
      rw [hstart, hparse, startParsed, Code.run_andThen]
      rfl
    | ok start size rate =>
      refine .inr (.inr ⟨rfl, start, size, rate, rfl, ?_⟩)
      rw [hstart, hparse, startParsed, Code.run_andThen, Code.run_andThen, Code.run_andThen,
        Code.run_andThen]
      rfl

/-! ### The playback state in START -/

/-- The playback state stays. -/
def KeepsPlayback (s t : State) : Prop := t.pstate = s.pstate

theorem KeepsPlayback.run {α : Type} {c : Code α} (h : c.Steps KeepsPlayback) (s : State) :
    (c.run s).2.pstate = s.pstate :=
  h.run (R := KeepsPlayback) (fun _ => rfl) (fun h k => Eq.trans k h) (by simp [KeepsPlayback])
    (by simp [KeepsPlayback]) s

theorem refillSteps_keepsPlayback : RefillSteps KeepsPlayback := by
  constructor
  case toParseSteps => constructor <;> simp [KeepsPlayback]
  all_goals simp [KeepsPlayback]

theorem applyRate_keepsPlayback : applyRate.Steps KeepsPlayback :=
  applyRate_steps (fun _ => rfl) (by simp [KeepsPlayback])

theorem primeAndEnable_keepsPlayback : primeAndEnable.Steps KeepsPlayback :=
  .andThen (refillSteps_keepsPlayback.refillTimes _) <|
    .andThen (.write (by simp [KeepsPlayback])) <|
    .andThen applyRate_keepsPlayback (.atomic (by simp [KeepsPlayback]))

/-- START leaves Stopped only with OK (R230). -/
theorem startStream_pstate {s : State} (h : s.pstate = .stopped) (name : State → Name) :
    ((startStream name).run s).1 = .ok ∧ ((startStream name).run s).2.pstate = .playing ∨
      (((startStream name).run s).1 = .openFail ∨ ((startStream name).run s).1 = .formatFail) ∧
        ((startStream name).run s).2.pstate = .stopped := by
  have hopened : (opened name s).pstate = .stopped := by simp [opened, h]
  have hparsed : (parsed name s).pstate = .stopped :=
    (KeepsPlayback.run refillSteps_keepsPlayback.parse _).trans hopened
  obtain ⟨-, hrun⟩ | ⟨-, -, hrun⟩ | ⟨-, start, size, rate, -, hrun⟩ := startStream_cases name s
  · simp only [hrun]
    exact .inr ⟨.inl trivial, hopened⟩
  · have hrejected : (rejected name s).pstate = .stopped := by simp [rejected, hparsed]
    simp only [hrun]
    exact .inr ⟨.inr trivial, hrejected⟩
  · have hcommitted : (committed name start size rate s).pstate = .playing := by simp [committed]
    have hprimed := (KeepsPlayback.run primeAndEnable_keepsPlayback _).trans hcommitted
    simp only [hrun]
    exact .inl ⟨trivial, hprimed⟩

/-! ### The causes of a failed PLAY -/

/-- PLAY up to START (R233, R236). -/
def playReady (name : Name) (s : State) : State :=
  ((Code.write markNameValid).run ((Code.write (writeName name)).run (teardown.run s).2).2).2

theorem playCode_run (name : Name) (s : State) :
    ((playCode name).run s).2 =
      finish ((startStream fun _ => name).run (playReady name s)).1
        (playValue ((startStream fun _ => name).run (playReady name s)).1)
        (gap ((startStream fun _ => name).run (playReady name s)).2) := by
  rw [playCode, Code.run_andThen, Code.run_andThen, Code.run_andThen, Code.run_bind, Code.run_finish,
    advanceSeq_finish]
  rfl

/-- The device opens a file when its script says so (R81). -/
theorem stOpen_of_script {s : State} {name : Name} {bytes : List Byte} {rest : List Bool}
    (hfile : lookupFile s.files name = some bytes) (hscript : s.openScript = true :: rest) :
    stOpen name s = (true, { s with openScript := rest, openFile := some name, cur := 0 }) := by
  simp only [stOpen, hfile, drawOpenOk, hscript, if_pos]

/-- Settles O43: START's first two ways, for a name that is in no file, and for a file that PARSE rejects by
its first tag. -/
theorem playFailureCauses : Obligations.PlayFailureCauses := by
  have hfiles : ∀ s name, (gap (playReady name s)).files = s.files := by simp [playReady]
  constructor
  · intro s name hnone
    have hopen : stOpen name (gap (playReady name s)) = (false, gap (playReady name s)) := by
      obtain ⟨-, hopen⟩ | ⟨hsome, -⟩ := stOpen_cases name (gap (playReady name s))
      · exact hopen
      · rw [hfiles, hnone] at hsome
        cases hsome
    obtain ⟨-, hrun⟩ | ⟨htrue, -⟩ | ⟨htrue, -⟩ := startStream_cases (fun _ => name) (playReady name s)
    · refine ⟨_, exec_eq (.play name) s, ?_⟩
      rw [commandCode, playCode_run, hrun]
      exact ⟨rfl, rfl⟩
    all_goals
      rw [Code.run_openFile, hopen] at htrue
      cases htrue
  · intro s name bytes rest hsome hlen hscript htag
    have hopen : stOpen name (gap (playReady name s)) =
        (true, { gap (playReady name s) with openScript := rest, openFile := some name, cur := 0 }) :=
      stOpen_of_script (by rw [hfiles, hsome]) (by simp [playReady, hscript])
    have hopened : opened (fun _ => name) (playReady name s) = advanceSeq (.flag true)
        { gap (playReady name s) with openScript := rest, openFile := some name, cur := 0 } := by
      rw [opened, Code.run_openFile, hopen]
    have hbytes : openBytes (opened (fun _ => name) (playReady name s)) = bytes := by
      have hlookup : lookupFile (playReady name s).files name = some bytes := by simp [playReady, hsome]
      rw [hopened]
      simp [openBytes, hlookup]
    have hparse : (parse.run (opened (fun _ => name) (playReady name s))).1 = .formatFail :=
      parseRejectsWrongTags _ (by rw [hopened]; rfl) (by rw [hbytes]; exact hlen)
        (.inl (by rw [hbytes]; exact htag))
    obtain ⟨hfalse, -⟩ | ⟨-, -, hrun⟩ | ⟨-, start, size, rate, hok, -⟩ :=
      startStream_cases (fun _ => name) (playReady name s)
    · rw [Code.run_openFile, hopen] at hfalse
      cases hfalse
    · refine ⟨_, exec_eq (.play name) s, ?_⟩
      rw [commandCode, playCode_run, hrun]
      exact ⟨rfl, rfl⟩
    · rw [hparse] at hok
      cases hok

/-! ### The playback state of each command -/

theorem plainSteps_keepsPlayback : PlainSteps KeepsPlayback := by
  constructor
  case arg => simp [KeepsPlayback, writeArg_cases]
  all_goals simp [KeepsPlayback]

theorem exec_pstate_of_not_movesPlayback {i : Instr} (h : ¬ MovesPlayback i) {s t : State}
    (hexec : exec i s = .next t) : t.pstate = s.pstate := by
  rw [exec_eq] at hexec
  rw [← Outcome.next.inj hexec]
  exact KeepsPlayback.run (plainSteps_keepsPlayback.commandCode h) s

theorem stop_pstate (s : State) : (stopCode.run s).2.pstate = .stopped := by
  simp [stopCode]

theorem pause_pstate (mute : Bool) (s : State) :
    ((pauseCode mute).run s).2.pstate = if s.pstate = .playing then .paused else s.pstate := by
  by_cases h : s.pstate = .playing
  · rw [pauseCode_run_of_playing h, if_pos h]
    simp [pausePlaying]
  · rw [pauseCode, run_ask_bind (b := false) (by simp [h]), if_neg h]
    simp

theorem resume_pstate (s : State) :
    (resumeCode.run s).2.pstate = if s.pstate = .paused then .playing else s.pstate := by
  by_cases h : s.pstate = .paused
  · rw [resumeCode_run_of_paused h, if_pos h]
    simp [resumePaused]
  · rw [resumeCode, run_ask_bind (b := false) (by simp [h]), if_neg h]
    simp

theorem update_pstate_of_ne {s : State} (h : s.pstate ≠ .playing) :
    (updateCode.run s).2.pstate = s.pstate := by
  rw [updateCode, run_ask_bind (b := true) (by simp [h])]
  simp

/-- The response to the outcome of START (R112, R240). -/
theorem respStatus_of_start {st : Status} {t : State}
    (h : st = .ok ∧ t.pstate = .playing ∨ (st = .openFail ∨ st = .formatFail) ∧ t.pstate = .stopped)
    (v : Word) :
    (finish st v (gap t)).respStatus = 0 ∧ (finish st v (gap t)).pstate = .playing ∨
      (finish st v (gap t)).respStatus ≠ 0 ∧ (finish st v (gap t)).pstate = .stopped := by
  obtain ⟨rfl, hplaying⟩ | ⟨rfl | rfl, hstopped⟩ := h
  · exact .inl ⟨rfl, by simpa using hplaying⟩
  · exact .inr ⟨by simp [statusCode], by simpa using hstopped⟩
  · exact .inr ⟨by simp [statusCode], by simpa using hstopped⟩

theorem play_pstate (name : Name) (s : State) :
    (((playCode name).run s).2.respStatus = 0 ∧ ((playCode name).run s).2.pstate = .playing) ∨
      (((playCode name).run s).2.respStatus ≠ 0 ∧ ((playCode name).run s).2.pstate = .stopped) := by
  rw [playCode_run]
  exact respStatus_of_start (startStream_pstate (by simp [playReady]) _) _

/-- The state after UPDATE's test for a due loop (R251, R252). -/
def updateLoopAsked (s : State) : State := ((Code.ask loopDue).run (updateTested s)).2

/-- UPDATE with a due loop tears the stream down and starts the retained file (R252). -/
theorem endOfStreamCode_run_of_loop {s : State} (h : loopDue s = true) :
    (endOfStreamCode.run (updateTested s)).2 =
      finish ((startStream fun s => s.nameReg).run (teardown.run (updateLoopAsked s)).2).1 0
        (gap ((startStream fun s => s.nameReg).run (teardown.run (updateLoopAsked s)).2).2) := by
  rw [endOfStreamCode, run_ask_bind (b := true) (by simpa [loopDue, updateTested, updateAsked] using h),
    if_pos rfl, Code.run_bind, restart, Code.run_andThen, Code.run_finish, advanceSeq_finish]
  rfl

theorem endOfStreamCode_run_of_no_loop {s : State} (h : loopDue s = false) :
    (endOfStreamCode.run (updateTested s)).2 =
      ((Code.finish .ok fun _ => 0).run (teardown.run (updateLoopAsked s)).2).2 := by
  rw [endOfStreamCode, run_ask_bind (b := false) (by simpa [loopDue, updateTested, updateAsked] using h),
    if_neg (by decide), Code.run_andThen]
  rfl

/-- UPDATE that refills stays Playing with OK (R244). -/
theorem update_refill_pstate {s : State} (hplaying : s.pstate = .playing) :
    ((refill.andThen <| Code.finish .ok fun _ => 0).run (updateTested s)).2.respStatus = 0 ∧
      ((refill.andThen <| Code.finish .ok fun _ => 0).run (updateTested s)).2.pstate = .playing := by
  have hrefilled := KeepsPlayback.run refillSteps_keepsPlayback.refill (updateTested s)
  rw [Code.run_andThen, Code.run_finish, advanceSeq_finish]
  exact ⟨rfl, by simpa using hrefilled.trans (by simp [updateTested, updateAsked, hplaying])⟩

/-- UPDATE that finds the stream ended and no due loop tears it down with OK (R251). -/
theorem endOfStream_pstate_of_no_loop {s : State} (hloop : loopDue s = false) :
    (endOfStreamCode.run (updateTested s)).2.respStatus = 0 ∧
      (endOfStreamCode.run (updateTested s)).2.pstate = .stopped := by
  rw [endOfStreamCode_run_of_no_loop hloop, Code.run_finish, advanceSeq_finish]
  exact ⟨rfl, by simp⟩

/-- UPDATE that finds the stream ended and a due loop answers as START does (R252). -/
theorem endOfStream_pstate_of_loop {s : State} (hloop : loopDue s = true) :
    (endOfStreamCode.run (updateTested s)).2.respStatus = 0 ∧
        (endOfStreamCode.run (updateTested s)).2.pstate = .playing ∨
      (endOfStreamCode.run (updateTested s)).2.respStatus ≠ 0 ∧
        (endOfStreamCode.run (updateTested s)).2.pstate = .stopped := by
  rw [endOfStreamCode_run_of_loop hloop]
  exact respStatus_of_start (startStream_pstate (by simp) _) _

/-- What UPDATE while Playing does to the playback state (R230). -/
theorem update_pstate {s : State} (hplaying : s.pstate = .playing) :
    ((updateCode.run s).2.respStatus = 0 ∧ ((updateCode.run s).2.pstate = .playing ∨
        ((updateCode.run s).2.pstate = .stopped ∧ loopDue s = false))) ∨
      ((updateCode.run s).2.respStatus ≠ 0 ∧ (updateCode.run s).2.pstate = .stopped ∧
        loopDue s = true) := by
  cases hended : endOfStream (gap (updateAsked s)) with
  | false =>
    rw [updateCode_run_of_playing hplaying hended, if_neg (by decide)]
    obtain ⟨hstatus, hstays⟩ := update_refill_pstate hplaying
    exact .inl ⟨hstatus, .inl hstays⟩
  | true =>
    rw [updateCode_run_of_playing hplaying hended, if_pos rfl]
    cases hloop : loopDue s with
    | false =>
      obtain ⟨hstatus, hstopped⟩ := endOfStream_pstate_of_no_loop hloop
      exact .inl ⟨hstatus, .inr ⟨hstopped, rfl⟩⟩
    | true =>
      obtain ⟨hstatus, hplays⟩ | ⟨hstatus, hstopped⟩ := endOfStream_pstate_of_loop hloop
      · exact .inl ⟨hstatus, .inl hplays⟩
      · exact .inr ⟨hstatus, hstopped, rfl⟩

/-- Settles O56: the outcome of each of the five commands, and that the others have no segment that moves the
playback state. -/
theorem playbackTransitions : Obligations.PlaybackTransitions := by
  intro i s t hexec
  have ht : ((commandCode i).run s).2 = t := Outcome.next.inj ((exec_eq i s).symm.trans hexec)
  cases i with
  | play name =>
    have h := play_pstate name s
    rwa [← commandCode, ht] at h
  | stop =>
    have h := stop_pstate s
    rwa [← commandCode, ht] at h
  | pause mute =>
    have h := pause_pstate mute s
    rwa [← commandCode, ht] at h
  | resume =>
    have h := resume_pstate s
    rwa [← commandCode, ht] at h
  | update =>
    have hother := update_pstate_of_ne (s := s)
    have hplaying := update_pstate (s := s)
    rw [← commandCode, ht] at hother hplaying
    exact ⟨hother, hplaying⟩
  | _ => exact exec_pstate_of_not_movesPlayback (by simp [MovesPlayback]) hexec

end Machine

end Sys2Proof
end

section
/-! What a step can be, and the playback state and the silent output over every step (R230, R259, R314). -/

namespace Sys2Proof

namespace Machine

open Host

/-! ### The cases of a step -/

/-- A step of a running command is its next segment; without one, time passes (R25, R314). -/
theorem runSegment_cases (s : State) :
    runSegment s = passTime s ∨ ∃ w answers effect next, s.seq = .run w answers ∧
      (wordCode w).after answers = .seg effect next ∧ runSegment s = (segment effect s).2 := by
  cases hseq : s.seq with
  | idle => exact .inl (by simp only [runSegment, hseq])
  | run w answers =>
    cases hafter : (wordCode w).after answers with
    | ret a => exact .inl (by simp only [runSegment, hseq, hafter])
    | seg effect next =>
      exact .inr ⟨w, answers, effect, next, rfl, hafter, runSegment_of_seg hseq hafter⟩

/-- A step is a segment, a whole offered command, an acceptance, the host's move of the cursor, or time
passing (R86, R111, R314). -/
theorem step_cases {s t : State} (h : step s = .next t) :
    (s.busy = true ∧ t = runSegment s) ∨ s.busy = false ∧
      ((∃ w rest, s.host = .offer w :: rest ∧
          t = ((wordCode w).run (acceptWord w { s with host := rest })).2) ∨
        (∃ w rest, s.host = .accept w :: rest ∧ t = acceptWord w { s with host := rest }) ∨
        (∃ pos rest, s.host = .moveCursor pos :: rest ∧ t = hostMoveCursor pos { s with host := rest }) ∨
        ∃ rest, t = passTime { s with host := rest }) := by
  by_cases hbusy : s.busy = true
  · rw [step_of_busy hbusy] at h
    exact .inl ⟨hbusy, (Outcome.next.inj h).symm⟩
  · replace hbusy : s.busy = false := by simpa using hbusy
    refine .inr ⟨hbusy, ?_⟩
    cases hhost : s.host with
    | nil =>
      rw [step_of_nil hbusy hhost] at h
      exact .inr (.inr (.inr ⟨s.host, (Outcome.next.inj h).symm⟩))
    | cons e rest =>
      cases e with
      | offer w =>
        rw [step_of_offer hbusy hhost, runWord_eq] at h
        exact .inl ⟨w, rest, rfl, (Outcome.next.inj h).symm⟩
      | accept w =>
        rw [step_of_accept hbusy hhost] at h
        exact .inr (.inl ⟨w, rest, rfl, (Outcome.next.inj h).symm⟩)
      | moveCursor pos =>
        rw [step_of_moveCursor hbusy hhost] at h
        exact .inr (.inr (.inl ⟨pos, rest, rfl, (Outcome.next.inj h).symm⟩))
      | wait =>
        rw [step_of_wait hbusy hhost] at h
        exact .inr (.inr (.inr ⟨rest, (Outcome.next.inj h).symm⟩))

theorem wordCode_of_ok {w : Word} {i : Instr} (h : decodeWord w = .ok i) : wordCode w = commandCode i := by
  simp only [wordCode, h]

theorem wordCode_of_error {w : Word} {e : IllegalWord} (h : decodeWord w = .error e) :
    wordCode w = illegalCode := by simp only [wordCode, h]

/-- A relation of every segment of a word's code, and of time passing, holds of the step that runs one. -/
theorem runSegment_of_steps {R : State → State → Prop} {s : State} (htime : R s (passTime s))
    (htrans : ∀ {s t u}, R s t → R t u → R s u) (hgap : ∀ s, R s (gap s))
    (hadvance : ∀ a s, R s (advanceSeq a s))
    (hword : ∀ w answers, s.seq = .run w answers → (wordCode w).Steps R) : R s (runSegment s) := by
  obtain ⟨h⟩ | ⟨w, answers, effect, next, hseq, hafter, h⟩ := runSegment_cases s
  · rw [h]
    exact htime
  · have hsteps := (hword w answers hseq).after answers
    rw [hafter] at hsteps
    rw [h]
    exact htrans (htrans (hgap s) (hsteps.1 _)) (hadvance _ _)

/-! ### Which words move the playback state -/

/-- The words of PLAY, STOP, PAUSE, RESUME and UPDATE (R105, R230). -/
def MovingWord (w : Word) : Prop := ∃ i, decodeWord w = .ok i ∧ MovesPlayback i

theorem wordCode_steps_of_not_moving {R : State → State → Prop} (h : PlainSteps R) {w : Word}
    (hw : ¬ MovingWord w) : (wordCode w).Steps R := by
  cases hdecode : decodeWord w with
  | ok i =>
    rw [wordCode_of_ok hdecode]
    exact h.commandCode fun hi => hw ⟨i, hdecode, hi⟩
  | error e =>
    rw [wordCode_of_error hdecode]
    exact h.finishCode _ _

/-- A segment of another word keeps the playback state (R230). -/
theorem runSegment_pstate {s : State} (h : ∀ w answers, s.seq = .run w answers → ¬ MovingWord w) :
    (runSegment s).pstate = s.pstate :=
  runSegment_of_steps (R := KeepsPlayback) (by simp [KeepsPlayback]) (fun h k => Eq.trans k h)
    (by simp [KeepsPlayback]) (by simp [KeepsPlayback]) fun w answers hseq =>
      wordCode_steps_of_not_moving plainSteps_keepsPlayback (h w answers hseq)

/-- Another word's whole command keeps the playback state (R230). -/
theorem wordCode_run_pstate {w : Word} (hw : ¬ MovingWord w) (s : State) :
    ((wordCode w).run s).2.pstate = s.pstate :=
  KeepsPlayback.run (wordCode_steps_of_not_moving plainSteps_keepsPlayback hw) s

/-- Of the whole commands only PLAY leads out of Stopped (90_conflicts.md C7). -/
theorem commandCode_run_of_stopped {i : Instr} (hplay : ∀ name, i ≠ .play name) {s : State}
    (hs : s.pstate = .stopped) : ((commandCode i).run s).2.pstate = .stopped := by
  by_cases hi : MovesPlayback i
  · obtain ⟨name, rfl⟩ | rfl | ⟨mute, rfl⟩ | rfl | rfl := hi
    · exact absurd rfl (hplay name)
    · exact stop_pstate s
    · rw [commandCode, pause_pstate, hs]
      rfl
    · rw [commandCode, resume_pstate, hs]
      rfl
    · rw [commandCode, update_pstate_of_ne (by simp [hs]), hs]
  · exact (KeepsPlayback.run (plainSteps_keepsPlayback.commandCode hi) s).trans hs

/-- Settles O57: a step that changes the playback state runs a segment or the whole of one of the five
commands. -/
theorem onlyTheseCommandsChangePlayback : Obligations.OnlyTheseCommandsChangePlayback := by
  intro s t hstep hmoved
  obtain ⟨hbusy, rfl⟩ | ⟨hbusy, hidle⟩ := step_cases hstep
  · by_cases h : ∃ w answers, s.seq = .run w answers ∧ MovingWord w
    · obtain ⟨w, answers, hseq, i, hdecode, hi⟩ := h
      refine ⟨w, i, .inr ⟨hbusy, answers, hseq⟩, hdecode, hi, fun hfalse => ?_⟩
      rw [hbusy] at hfalse
      cases hfalse
    · exact absurd (runSegment_pstate fun w answers hseq hw => h ⟨w, answers, hseq, hw⟩) hmoved
  · obtain ⟨w, rest, hhost, rfl⟩ | ⟨w, rest, -, rfl⟩ | ⟨pos, rest, -, rfl⟩ | ⟨rest, rfl⟩ := hidle
    · by_cases hw : MovingWord w
      · obtain ⟨i, hdecode, hi⟩ := hw
        refine ⟨w, i, .inl ⟨hbusy, rest, hhost⟩, hdecode, hi, fun _ hs => ?_⟩
        by_contra hplay
        rw [wordCode_of_ok hdecode] at hmoved
        have hstays := commandCode_run_of_stopped (i := i) (s := acceptWord w { s with host := rest })
          (fun name hname => hplay ⟨name, hname⟩) hs
        exact hmoved (hstays.trans hs.symm)
      · exact absurd (wordCode_run_pstate hw _) hmoved
    all_goals exact absurd (by simp) hmoved

/-! ### Silence -/

/-- A silent output stays silent. -/
def KeepsSilence (s t : State) : Prop := s.duty = 127 → t.duty = 127

/-- The interrupt stays disabled and the output silent. -/
def Muted (s : State) : Prop := s.ie = false ∧ s.duty = 127

/-- The interrupt stays disabled and a silent output silent. -/
def KeepsMuted (s t : State) : Prop := Muted s → Muted t

theorem gap_keepsMuted (s : State) : KeepsMuted s (gap s) := by
  rintro ⟨hie, hduty⟩
  obtain ⟨-, -, hkept⟩ := gap_noTick s hie
  exact ⟨by simpa using hie, hkept.trans hduty⟩

theorem KeepsMuted.run {α : Type} {c : Code α} (h : c.Steps KeepsMuted) {s : State} (hs : Muted s) :
    Muted (c.run s).2 :=
  h.run (R := KeepsMuted) (fun _ => id) (fun h k => k ∘ h) gap_keepsMuted
    (fun a s hs => by simpa [Muted] using hs) s hs

/-- No segment drives a byte out but silence (R232, R234, R254). -/
theorem commandSteps_keepsSilence : CommandSteps KeepsSilence where
  refl := fun _ => id
  read := by simp [KeepsSilence]
  seek := by simp [KeepsSilence]
  push := by simp [KeepsSilence]
  advance := by simp [KeepsSilence]
  latch := by simp [KeepsSilence]
  openFile := by simp [KeepsSilence]
  close := by simp [KeepsSilence]
  commit := by simp [KeepsSilence]
  base := by simp [KeepsSilence]
  reload := by simp [KeepsSilence]
  enable := by simp [KeepsSilence]
  select := by simp [KeepsSilence]
  silence := by simp [KeepsSilence, Config.silence]
  volume := by simp [KeepsSilence]
  rate := by simp [KeepsSilence]
  arg := by simp [KeepsSilence, writeArg_cases]
  loopFlag := by simp [KeepsSilence]
  finish := by simp [KeepsSilence]
  disable := by simp [KeepsSilence]
  stop := by simp [KeepsSilence, Config.silence]
  name := by simp [KeepsSilence]
  nameValid := by simp [KeepsSilence]
  mute := by simp [KeepsSilence, Config.silence]
  pause := by simp [KeepsSilence]
  play := by simp [KeepsSilence]

theorem plainSteps_keepsMuted : PlainSteps KeepsMuted := by
  constructor
  case arg => simp [KeepsMuted, Muted, writeArg_cases]
  case silence => simp +contextual [KeepsMuted, Muted, Config.silence]
  all_goals simp [KeepsMuted, Muted]

theorem parseSteps_keepsMuted : ParseSteps KeepsMuted := by
  constructor <;> simp [KeepsMuted, Muted]

theorem teardown_keepsMuted : teardown.Steps KeepsMuted :=
  teardown_steps (fun _ => id) (by simp [KeepsMuted, Muted]) (by simp [KeepsMuted, Muted])
    (by simp +contextual [KeepsMuted, Muted, Config.silence])

/-- START that ends Stopped leaves the output silent (R237). -/
theorem startStream_muted {name : State → Name} {s : State} (hs : Muted s) (hstopped : s.pstate = .stopped)
    (hfailed : ((startStream name).run s).2.pstate = .stopped) : Muted ((startStream name).run s).2 := by
  have hopened : Muted (opened name s) :=
    KeepsMuted.run (.openFile (by simp [KeepsMuted, Muted])) hs
  have hparsed : Muted (parsed name s) := KeepsMuted.run parseSteps_keepsMuted.parse hopened
  obtain ⟨-, hrun⟩ | ⟨-, -, hrun⟩ | ⟨-, start, size, rate, -, hrun⟩ := startStream_cases name s
  · simp only [hrun]
    exact hopened
  · simp only [hrun]
    exact KeepsMuted.run (.write (by simp [KeepsMuted, Muted]))
      (KeepsMuted.run (.ask (fun _ => id) _) hparsed)
  · obtain ⟨-, hplaying⟩ | ⟨hstatus, -⟩ := startStream_pstate hstopped name
    · rw [hfailed] at hplaying
      cases hplaying
    · rw [hrun] at hstatus
      obtain h | h := hstatus <;> cases h

/-- PLAY that ends Stopped leaves the output silent (R233, R237). -/
theorem play_muted {name : Name} {s : State} (hs : Muted s)
    (hfailed : ((playCode name).run s).2.pstate = .stopped) : Muted ((playCode name).run s).2 := by
  have hready : Muted (playReady name s) :=
    KeepsMuted.run (.write (by simp [KeepsMuted, Muted])) <|
      KeepsMuted.run (.write (by simp [KeepsMuted, Muted])) <| KeepsMuted.run teardown_keepsMuted hs
  have hstopped : (playReady name s).pstate = .stopped := by simp [playReady]
  rw [playCode_run] at hfailed ⊢
  have hstart := startStream_muted hready hstopped (by simpa using hfailed)
  simpa [Muted] using gap_keepsMuted _ hstart

/-- A whole command that starts Stopped and muted and ends Stopped ends muted (R259). -/
theorem commandCode_run_muted {i : Instr} {s : State} (hs : Muted s) (hstopped : s.pstate = .stopped)
    (hend : ((commandCode i).run s).2.pstate = .stopped) : Muted ((commandCode i).run s).2 := by
  have hfinish : ∀ st v, (Code.finish st v).Steps KeepsMuted := plainSteps_keepsMuted.finishCode
  by_cases hi : MovesPlayback i
  · obtain ⟨name, rfl⟩ | rfl | ⟨mute, rfl⟩ | rfl | rfl := hi
    · rw [commandCode] at hend ⊢
      exact play_muted hs hend
    · rw [commandCode, stopCode]
      exact KeepsMuted.run (.andThen teardown_keepsMuted (hfinish _ _)) hs
    · rw [commandCode, pauseCode, run_ask_bind (b := false) (by simp [hstopped])]
      exact KeepsMuted.run (hfinish _ _) (KeepsMuted.run (.ask (fun _ => id) _) hs)
    · rw [commandCode, resumeCode, run_ask_bind (b := false) (by simp [hstopped])]
      exact KeepsMuted.run (hfinish _ _) (KeepsMuted.run (.ask (fun _ => id) _) hs)
    · rw [commandCode, updateCode, run_ask_bind (b := true) (by simp [hstopped])]
      exact KeepsMuted.run (hfinish _ _) (KeepsMuted.run (.ask (fun _ => id) _) hs)
  · exact KeepsMuted.run (plainSteps_keepsMuted.commandCode hi) hs

/-- The same of a whole word: an illegal one only responds. -/
theorem wordCode_run_muted {w : Word} {s : State} (hs : Muted s) (hstopped : s.pstate = .stopped)
    (hend : ((wordCode w).run s).2.pstate = .stopped) : Muted ((wordCode w).run s).2 := by
  cases hdecode : decodeWord w with
  | ok i =>
    rw [wordCode_of_ok hdecode] at hend ⊢
    exact commandCode_run_muted hs hstopped hend
  | error e =>
    rw [wordCode_of_error hdecode]
    exact KeepsMuted.run (plainSteps_keepsMuted.finishCode _ _) hs

/-- The interrupt is off while Stopped, so a segment that runs from there drives silence at most. -/
theorem runSegment_silent {s : State} (hs : Muted s) : (runSegment s).duty = 127 := by
  obtain h | ⟨w, answers, effect, next, -, hafter, h⟩ := runSegment_cases s
  · rw [h]
    exact (gap_keepsMuted { s with respValid := false } hs).2
  · have hsteps := (commandSteps_keepsSilence.wordCode w).after answers
    rw [hafter] at hsteps
    have hduty := hsteps.1 _ (gap_keepsMuted s hs).2
    rw [h]
    simpa [segment] using hduty

/-- Settles O58: while Stopped the interrupt is off, and no segment drives a byte out but silence. -/
theorem silenceHoldsWhileStopped : Obligations.SilenceHoldsWhileStopped := by
  intro s t hinv hstopped hduty hstep hend
  have hs : Muted s := ⟨hinv.stopped_ie hstopped, hduty⟩
  obtain ⟨-, rfl⟩ | ⟨-, hidle⟩ := step_cases hstep
  · exact runSegment_silent hs
  · obtain ⟨w, rest, -, rfl⟩ | ⟨w, rest, -, rfl⟩ | ⟨pos, rest, -, rfl⟩ | ⟨rest, rfl⟩ := hidle
    · have hstart : Muted (acceptWord w { s with host := rest }) := hs
      exact (wordCode_run_muted hstart hstopped hend).2
    · exact hduty
    · exact hduty
    · exact (gap_keepsMuted { s with host := rest, respValid := false } hs).2

end Machine

end Sys2Proof
end

section
/-! The state-wide invariants, kept by every segment and by the sample clock (R48). -/

namespace Sys2Proof

namespace Machine

open Host

/-! ### The invariants and the sample clock -/

theorem Inv.timerStep {s : State} (h : Inv s) : Inv (timerStep s) := by
  by_cases hend : s.tcnt = s.reloadActive
  · rw [timerStep_of_eq hend]
    exact { h with
      ring := { h.ring with }, active_ge := h.reload_ge, active_le := h.reload_le, tcnt_le := Nat.zero_le _ }
  · rw [timerStep_of_ne hend]
    have hne : s.tcnt.toNat ≠ s.reloadActive.toNat := fun heq => hend (BitVec.eq_of_toNat_eq heq)
    have hle := h.tcnt_le
    have hlt := s.reloadActive.isLt
    refine { h with ring := { h.ring with }, tcnt_le := ?_ }
    simp only [BitVec.toNat_ofNat]
    omega

theorem Inv.tick {s : State} (h : Inv s) : Inv (tick s) := by
  obtain hzero | hpos := Nat.eq_zero_or_pos s.count.toNat
  · rw [tick_of_empty hzero]
    exact { h with ring := { h.ring with } }
  · have hring : RingInv (pop s).2 := h.ring.pop
    rw [pop_of_pos hpos] at hring
    rw [tick_of_pos hpos]
    exact { h with ring := { hring with } }

theorem Inv.interruptEntry {s : State} (h : Inv s) : Inv (interruptEntry s) := by
  cases hdue : interruptDue s with
  | false => rwa [interruptEntry_of_not_due hdue]
  | true =>
    rw [interruptEntry_of_due hdue]
    exact Inv.tick (s := { s with tf := false }) { h with ring := { h.ring with } }

theorem Inv.runTimer {s : State} (h : Inv s) (n : Nat) : Inv (runTimer n s) := by
  induction n generalizing s with
  | zero => exact h
  | succ n ih => exact ih h.timerStep.interruptEntry

theorem Inv.holdTimer {s : State} (h : Inv s) (n : Nat) : Inv (holdTimer n s) := by
  induction n generalizing s with
  | zero => exact h
  | succ n ih => exact ih h.timerStep

theorem Inv.drawTimerSteps {s : State} (h : Inv s) : Inv (drawTimerSteps s).2 := by
  unfold Machine.drawTimerSteps
  cases s.timerScript <;> exact { h with ring := { h.ring with } }

theorem Inv.gap {s : State} (h : Inv s) : Inv (gap s) := h.drawTimerSteps.interruptEntry.runTimer _

theorem Inv.hold {s : State} (h : Inv s) : Inv (hold s) := h.drawTimerSteps.holdTimer _

theorem Inv.advanceSeq (h : Inv s) (a : Answer) : Inv (advanceSeq a s) :=
  { h with ring := { h.ring with } }

/-! ### The invariants and the writes of the commands -/

section

variable {s : State}

theorem Inv.disableInterrupt (h : Inv s) : Inv (disableInterrupt s) :=
  { h with ring := { h.ring with }, stopped_ie := fun _ => rfl, paused_ie := fun _ => rfl }

theorem Inv.clearPendingAndEnable (h : Inv s) (hplaying : s.pstate = .playing) :
    Inv (clearPendingAndEnable s) :=
  { h with
    ring := { h.ring with }
    stopped_ie := fun hp => by cases hplaying.symm.trans hp
    paused_ie := fun hp => by cases hplaying.symm.trans hp }

theorem Inv.silenceAndStop (h : Inv s) (hie : s.ie = false) : Inv (silenceAndStop s) :=
  { h with
    ring := { h.ring with }
    stopped_ie := fun _ => hie
    paused_ie := fun _ => hie
    active_iff := by simp }

theorem Inv.silenceOutput (h : Inv s) : Inv (silenceOutput s) := { h with ring := { h.ring with } }

theorem Inv.markPaused (h : Inv s) (hplaying : s.pstate = .playing) (hie : s.ie = false) :
    Inv (markPaused s) :=
  { h with
    ring := { h.ring with }
    stopped_ie := fun _ => hie
    paused_ie := fun _ => hie
    active_iff := by simpa [hplaying] using h.active_iff }

theorem Inv.markPlaying (h : Inv s) (hpaused : s.pstate = .paused) : Inv (markPlaying s) :=
  { h with
    ring := { h.ring with }
    stopped_ie := fun hp => by cases hp
    paused_ie := fun hp => by cases hp
    active_iff := by simpa [hpaused] using h.active_iff }

theorem Inv.stClose (h : Inv s) : Inv (stClose s) :=
  { h with ring := { h.ring with }, open_known := fun _ hname => by cases hname }

theorem Inv.stSeek (h : Inv s) (pos : Nat) : Inv (stSeek pos s) := { h with ring := { h.ring with } }

theorem Inv.stRead (h : Inv s) (n : Nat) : Inv (stRead n s).2 := by
  unfold Machine.stRead drawReadCount
  cases s.readScript <;> exact { h with ring := { h.ring with } }

theorem Inv.drawOpenOk (h : Inv s) : Inv (drawOpenOk s).2 := by
  unfold Machine.drawOpenOk
  cases s.openScript <;> exact { h with ring := { h.ring with } }

theorem Inv.stOpen (h : Inv s) (name : Name) : Inv (stOpen name s).2 := by
  obtain ⟨-, hopen⟩ | ⟨hsome, ⟨-, hopen⟩ | ⟨-, hopen⟩⟩ := stOpen_cases name s
  · rwa [hopen]
  · rw [hopen]
    exact h.drawOpenOk
  · rw [hopen]
    refine { h.drawOpenOk with ring := { h.drawOpenOk.ring with }, open_known := fun x hx => ?_ }
    obtain rfl : name = x := Option.some.inj hx
    simpa using hsome

theorem Inv.pushAll (h : Inv s) (bytes : List Byte) : Inv (pushAll bytes s) := by
  induction bytes generalizing s with
  | nil => exact h
  | cons b rest ih =>
    have hpush : Inv (push b s).2 := by
      have hring : RingInv (push b s).2 := h.ring.push b
      constructor
      case ring => exact hring
      all_goals simp [h.dataPos_le, h.volume_le, h.rate_ge, h.rate_le, h.base_ge, h.base_le, h.reload_ge,
        h.reload_le, h.active_ge, h.active_le, h.tcnt_le, h.active_iff, h.status_le]
      · exact h.stopped_ie
      · exact h.paused_ie
      · exact h.open_known
      · exact fun a b hf => h.files_le (a, b) hf
    exact ih hpush

theorem Inv.latchEndOfData (h : Inv s) : Inv (latchEndOfData s) := { h with ring := { h.ring with } }

theorem Inv.advancePos (h : Inv s) {k : Nat} (hk : s.dataPos.toNat + k ≤ s.dataSize.toNat) :
    Inv (advancePos k s) := by
  refine { h with ring := { h.ring with }, dataPos_le := ?_ }
  have hlt := s.dataSize.isLt
  simp only [Machine.advancePos, BitVec.toNat_ofNat]
  rwa [Nat.mod_eq_of_lt (by omega)]

theorem Inv.commitStream (h : Inv s) (start size rate : Word) : Inv (commitStream start size rate s) :=
  { h with
    ring := { ringInv_ringReset h.ring.rb_wf h.ring.rb_lt with }
    dataPos_le := Nat.zero_le _
    stopped_ie := fun hp => by cases hp
    paused_ie := fun hp => by cases hp
    active_iff := by simp }

theorem Inv.writeBaseReload (h : Inv s) : Inv (writeBaseReload s) := by
  obtain ⟨hlo, hhi⟩ := basePeriod_mem s.cfg s.sampleRate.toNat
  refine { h with ring := { h.ring with }, base_ge := ?_, base_le := ?_ } <;>
    simp only [Machine.writeBaseReload, toNat_ofNat_basePeriod] <;> assumption

theorem Inv.writeReload (h : Inv s) {r : Nat} (hlo : 49 ≤ r) (hhi : r ≤ 65534) : Inv (writeReload r s) := by
  refine { h with ring := { h.ring with }, reload_ge := ?_, reload_le := ?_ } <;>
    simp only [Machine.writeReload, BitVec.toNat_ofNat] <;> omega

theorem Inv.writeRate (h : Inv s) (x : Int) : Inv (writeRate x s) := by
  have hclamp := toNat_clampRate x
  refine { h with ring := { h.ring with }, rate_ge := ?_, rate_le := ?_ } <;>
    simp only [Machine.writeRate, toNat_ofNat_clampRate, Config.rateMinQ, Config.rateMaxQ] <;> omega

theorem Inv.writeVolume (h : Inv s) (v : BitVec 8) : Inv (writeVolume v s) := by
  refine { h with ring := { h.ring with }, volume_le := ?_ }
  simp only [Machine.writeVolume, BitVec.toNat_ofNat, Config.volMax]
  omega

theorem Inv.writeStorageSel (h : Inv s) (sel : BitVec 8) : Inv (writeStorageSel sel s) :=
  { h with ring := { h.ring with } }

theorem Inv.writeArg (h : Inv s) (idx : BitVec 2) (v : BitVec 24) : Inv (writeArg idx v s) := by
  rw [writeArg_cases]
  exact { h with ring := { h.ring with } }

theorem Inv.writeLoopFlag (h : Inv s) (b : Bool) : Inv (writeLoopFlag b s) :=
  { h with ring := { h.ring with } }

theorem Inv.writeName (h : Inv s) (name : Name) : Inv (writeName name s) := { h with ring := { h.ring with } }

theorem Inv.markNameValid (h : Inv s) : Inv (markNameValid s) := { h with ring := { h.ring with } }

theorem statusCode_le (st : Status) : (statusCode st).toNat ≤ 3 := by cases st <;> decide

theorem Inv.finish (h : Inv s) (st : Status) (v : Word) : Inv (finish st v s) :=
  { h with ring := { h.ring with }, status_le := statusCode_le st }

theorem Inv.acceptWord (h : Inv s) (w : Word) : Inv (acceptWord w s) := { h with ring := { h.ring with } }

theorem Inv.hostMoveCursor (h : Inv s) (pos : Word) : Inv (hostMoveCursor pos s) :=
  { h with ring := { h.ring with } }

theorem Inv.withHost (h : Inv s) (host : List HostEvent) : Inv { s with host := host } :=
  { h with ring := { h.ring with } }

theorem Inv.passTime (h : Inv s) : Inv (passTime s) :=
  Inv.gap (s := { s with respValid := false }) { h with ring := { h.ring with } }

end

/-! ### What the sequencer's registers hold in the middle of a command -/

/-- The registers that say how far a stream has come; the sample clock writes none of them. -/
structure Phase where
  pstate : PState
  ie : Bool
  active : Bool
  opened : Bool
  pos : Nat
  size : Nat

/-- The phase of a state. -/
def State.phase (s : State) : Phase :=
  ⟨s.pstate, s.ie, s.streamActive, s.openFile.isSome, s.dataPos.toNat, s.dataSize.toNat⟩

/-- The invariants hold, and the phase is one of `A`. -/
def Sound (A : Phase → Prop) (s : State) : Prop := Inv s ∧ A s.phase

section

variable {A : Phase → Prop} {s : State}

theorem Sound.gap (h : Sound A s) : Sound A (gap s) := ⟨h.1.gap, by simpa [State.phase] using h.2⟩

theorem Sound.hold (h : Sound A s) : Sound A (hold s) := ⟨h.1.hold, by simpa [State.phase] using h.2⟩

theorem Sound.advanceSeq (h : Sound A s) (a : Answer) : Sound A (advanceSeq a s) := ⟨h.1.advanceSeq a, h.2⟩

end

/-! ### The invariants before each segment -/

/-- Run from a state of `P`, the procedure meets `Inv` before each segment and ends in `Q`. -/
def Code.Meets {α : Type} (P : State → Prop) (c : Code α) (Q : α → State → Prop) : Prop :=
  ∀ s, P s → c.Keeps Inv Q s

section

variable {α β : Type} {P : State → Prop} {A B : Phase → Prop}

theorem Code.Meets.ret {Q : α → State → Prop} {a : α} (h : ∀ s, P s → Q a s) : (Code.ret a).Meets P Q := h

theorem Code.Meets.bind {c : Code α} {f : α → Code β} {Q : α → State → Prop} {R : β → State → Prop}
    (hc : c.Meets P Q) (hf : ∀ a, (f a).Meets (Q a) R) : (c.bind f).Meets P R := fun s hs =>
  (Code.keeps_bind c f s).mpr ((hc s hs).mono (fun _ h => h) hf)

theorem Code.Meets.andThen {c : Code α} {d : Code β} {Q : State → Prop} {R : β → State → Prop}
    (hc : c.Meets P fun _ => Q) (hd : d.Meets Q R) : (c.andThen d).Meets P R := hc.bind fun _ => hd

theorem Code.Meets.pre {c : Code α} {P' : State → Prop} {Q : α → State → Prop} (hc : c.Meets P Q)
    (h : ∀ s, P' s → P s) : c.Meets P' Q := fun s hs => hc s (h s hs)

theorem Code.Meets.post {c : Code α} {Q Q' : α → State → Prop} (hc : c.Meets P Q)
    (h : ∀ a s, Q a s → Q' a s) : c.Meets P Q' := fun s hs => (hc s hs).mono (fun _ h => h) h

/-- One segment: its effect leads from `A` to what its answer tells. -/
theorem Code.Meets.seg {effect : State → Answer × State} {result : Answer → α} {B : α → Phase → Prop}
    (h : ∀ s, Sound A s → Sound (B (result (effect s).1)) (effect s).2) :
    (Code.seg effect fun a => .ret (result a)).Meets (Sound A) fun a => Sound (B a) := fun _ hs =>
  ⟨hs.1, (h _ hs.gap).advanceSeq _⟩

theorem Code.Meets.write {f : State → State} (h : ∀ s, Sound A s → Sound B (f s)) :
    (Code.write f).Meets (Sound A) fun _ => Sound B := .seg (B := fun _ => B) h

theorem Code.Meets.atomic {f : State → State} (h : ∀ s, Sound A s → Sound B (f s)) :
    (Code.atomic f).Meets (Sound A) fun _ => Sound B := .write fun _ hs => (h _ hs.hold).hold

theorem Code.Meets.assign : Code.assign.Meets (Sound A) fun _ => Sound A := .write fun _ hs => hs

/-- A test tells what it tests of the phase. -/
theorem Code.Meets.ask {test : State → Bool} {B : Bool → Phase → Prop}
    (h : ∀ s, A s.phase → B (test s) s.phase) : (Code.ask test).Meets (Sound A) fun b => Sound (B b) :=
  .seg fun s hs => ⟨hs.1, h s hs.2⟩

theorem Code.Meets.askAny {test : State → Bool} : (Code.ask test).Meets (Sound A) fun _ => Sound A :=
  .ask fun _ h => h

theorem Code.Meets.when {test : State → Bool} {f : State → State}
    (hset : ∀ s, test s = true → Sound A s → Sound B (f s))
    (hclear : ∀ s, test s = false → Sound A s → Sound B s) :
    (Code.when test f).Meets (Sound A) fun _ => Sound B := .seg (B := fun _ => B) fun s hs => by
  cases htest : test s with
  | true => simpa [htest] using hset s htest hs
  | false => simpa [htest] using hclear s htest hs

/-- The number that was read may be told of the phase. -/
theorem Code.Meets.number {v : State → Nat} {B : Nat → Phase → Prop}
    (h : ∀ s, Sound A s → B (v s) s.phase) : (Code.number v).Meets (Sound A) fun n => Sound (B n) :=
  .seg fun s hs => ⟨hs.1, h s hs⟩

theorem Code.Meets.numberAny {v : State → Nat} : (Code.number v).Meets (Sound A) fun _ => Sound A :=
  .number fun _ hs => hs.2

theorem Code.Meets.openFile {name : State → Name} {B : Bool → Phase → Prop}
    (h : ∀ n s, Sound A s → Sound (B (stOpen n s).1) (stOpen n s).2) :
    (Code.openFile name).Meets (Sound A) fun b => Sound (B b) := .seg fun s hs => h (name s) s hs

theorem Code.Meets.read {n : Nat} {B : List Byte → Phase → Prop}
    (h : ∀ s, Sound A s → Sound (B (stRead n s).1) (stRead n s).2) :
    (Code.read n).Meets (Sound A) fun b => Sound (B b) := .seg h

theorem Code.Meets.integer {x : Int} : (Code.integer x).Meets (Sound A) fun _ => Sound A :=
  .seg fun _ hs => hs

theorem Code.Meets.fraction {t : Int × Int} : (Code.fraction t).Meets (Sound A) fun _ => Sound A :=
  .seg fun _ hs => hs

/-- A procedure each of whose segments keeps `Sound A`. -/
theorem Code.Meets.of_steps {c : Code α} (h : c.Steps fun s t => Sound A s → Sound A t) :
    c.Meets (Sound A) fun _ => Sound A := by
  intro s hs
  induction c generalizing s with
  | ret a => exact hs
  | seg effect next ih => exact ⟨hs.1, ih _ (h.2 _) _ ((h.1 _ hs.gap).advanceSeq _)⟩

end

/-! ### The procedures -/

section

variable {A : Phase → Prop}

theorem Sound.stRead {s : State} (h : Sound A s) (n : Nat) : Sound A (stRead n s).2 :=
  ⟨h.1.stRead n, by simpa [State.phase] using h.2⟩

theorem Sound.stSeek {s : State} (h : Sound A s) (pos : Nat) : Sound A (stSeek pos s) := ⟨h.1.stSeek pos, h.2⟩

theorem parse_meets : parse.Meets (Sound A) fun _ => Sound A :=
  .of_steps (ParseSteps.parse ⟨fun _ h => h, fun n _ h => h.stRead n, fun p _ h => h.stSeek p⟩)

/-- APPLY_RATE writes a reload of the legal range (R182). -/
theorem applyRate_meets : applyRate.Meets (Sound A) fun _ => Sound A := by
  refine .bind .numberAny fun p1 => .bind .numberAny fun p => ?_
  intro s hs
  obtain ⟨hlo, hhi⟩ := reloadOfPeriod_mem p
  refine ⟨hs.1, ?_⟩
  exact Code.Meets.atomic (f := writeReload (reloadOfPeriod p))
    (fun u hu => ⟨hu.1.writeReload hlo hhi, hu.2⟩) _ (hs.gap.advanceSeq _)

theorem writeRate_meets (x : Int) : (Code.write (writeRate x)).Meets (Sound A) fun _ => Sound A :=
  .write fun _ h => ⟨h.1.writeRate x, h.2⟩

theorem Sound.pushAll {s : State} (h : Sound A s) (bytes : List Byte) : Sound A (pushAll bytes s) :=
  ⟨h.1.pushAll bytes, by simpa [State.phase] using h.2⟩

theorem Sound.latchEndOfData {s : State} (h : Sound A s) : Sound A (latchEndOfData s) :=
  ⟨h.1.latchEndOfData, h.2⟩

/-- The phase is one of `A`, and `k` bytes of the data are left. -/
def Room (A : Phase → Prop) (k : Nat) (x : Phase) : Prop := A x ∧ x.pos + k ≤ x.size

/-- A chunk is no larger than what is left of the data (R247). -/
theorem Sound.room {s : State} (h : Sound A s) (c : Nat) : Room A (chunkSize c s) s.phase := by
  refine ⟨h.2, ?_⟩
  have hle := h.1.dataPos_le
  simp only [chunkSize, State.phase]
  omega

theorem Sound.read_room {s : State} {n : Nat} (h : Sound (Room A n) s) :
    Sound (Room A (Machine.stRead n s).1.length) (Machine.stRead n s).2 := by
  obtain ⟨hinv, hA, hle⟩ := h.stRead n
  exact ⟨hinv, hA, le_trans (Nat.add_le_add_left (stRead_length n s) _) hle⟩

variable (hA : ∀ x p, A x → A { x with pos := p })

include hA in
theorem Sound.advancePos {s : State} {k : Nat} (h : Sound (Room A k) s) : Sound A (advancePos k s) := by
  obtain ⟨hinv, hphase, hle⟩ := h
  exact ⟨hinv.advancePos hle, hA _ _ hphase⟩

include hA in
/-- The loop of REFILL: a read delivers at most what is left of the data (R247). -/
theorem refillLoop_meets (fuel : Nat) : (refillLoop fuel).Meets (Sound A) fun _ => Sound A := by
  induction fuel with
  | zero => exact .ret fun _ h => h
  | succ fuel ih =>
    refine .bind .numberAny fun c => .bind .askAny fun enough => ?_
    split
    · exact .ret fun _ h => h
    · refine .bind (.number (B := Room A) fun _ h => h.room c) fun n =>
        .bind (.read (B := fun b => Room A b.length) fun _ h => h.read_room) fun b =>
        .andThen (.atomic fun _ h => h.pushAll b) <| .andThen (.write fun _ h => h.advancePos hA) <|
        .bind (.when (fun _ _ h => h.latchEndOfData) fun _ _ h => h) fun failed => ?_
      split
      · exact .ret fun _ h => h
      · exact ih

include hA in
theorem refill_meets : refill.Meets (Sound A) fun _ => Sound A := by
  refine .bind .askAny fun inactive => ?_
  split
  · exact .ret fun _ h => h
  · refine .bind .numberAny fun exp =>
      .bind (.when (fun _ _ h => h.latchEndOfData) fun _ _ h => h) fun beyond => ?_
    split
    · exact .ret fun _ h => h
    · exact .andThen (.when (fun _ _ h => h.stSeek exp) fun _ _ h => h) (refillLoop_meets hA _)

include hA in
theorem refillTimes_meets (n : Nat) : (refillTimes n).Meets (Sound A) fun _ => Sound A := by
  induction n with
  | zero => exact .ret fun _ h => h
  | succ n ih => exact .andThen (refill_meets hA) ih

end

/-! ### The commands -/

/-- Between commands: a file is open exactly while a stream is active (R32). -/
def AtRest (x : Phase) : Prop := x.active = x.opened

/-- No stream, no interrupt (R234). -/
def Torn (x : Phase) : Prop := x.pstate = .stopped ∧ x.ie = false ∧ x.active = false ∧ x.opened = false

/-- A file is open for a stream that has not started (R233). -/
def Opened (x : Phase) : Prop := x.pstate = .stopped ∧ x.ie = false ∧ x.active = false ∧ x.opened = true

/-- A stream has started (R238). -/
def Started (x : Phase) : Prop := x.pstate = .playing ∧ x.active = true ∧ x.opened = true

theorem Torn.atRest {x : Phase} (h : Torn x) : AtRest x := h.2.2.1.trans h.2.2.2.symm

theorem Started.atRest {x : Phase} (h : Started x) : AtRest x := h.2.1.trans h.2.2.symm

/-- A command ends at rest (R112). -/
theorem finish_meets (st : Status) (v : State → Word) :
    (Code.finish st v).Meets (Sound AtRest) fun _ => RestInv := fun s hs => by
  refine ⟨hs.1, ?_⟩
  have hgap := hs.gap
  exact { (hgap.1.finish st (v (Machine.gap s))).advanceSeq .done with
    open_iff := hgap.2, not_busy := rfl, seq_idle := rfl }

/-- TEARDOWN (R234). -/
theorem teardown_meets : teardown.Meets (Sound AtRest) fun _ => Sound Torn := by
  refine .andThen (.atomic (B := fun x => AtRest x ∧ x.ie = false) fun s h => ⟨h.1.disableInterrupt, h.2, rfl⟩) <|
    .andThen (.when (B := fun x => x.ie = false ∧ x.opened = false) (fun s _ h => ⟨h.1.stClose, h.2.2, rfl⟩)
      fun s hinactive h => ⟨h.1, h.2.2, h.2.1.symm.trans hinactive⟩) <|
    .atomic fun s h => ⟨h.1.silenceAndStop h.2.1, rfl, h.2.1, rfl, h.2.2⟩

/-- START's end for the result of PARSE (R237 to R241). -/
theorem startParsed_meets (r : ParseResult) : (startParsed r).Meets (Sound Opened) fun _ => Sound AtRest := by
  refine .andThen .askAny ?_
  cases r with
  | formatFail =>
    exact .andThen (.write (B := AtRest) fun s h => ⟨h.1.stClose, h.2.2.2.1⟩) (.ret fun _ h => h)
  | ok start size rate =>
    have hpos : ∀ (x : Phase) (p : Nat), Started x → Started { x with pos := p } := fun _ _ h => h
    refine .andThen .assign <|
      .andThen (.atomic (B := Started) fun s h => ⟨h.1.commitStream start size rate, rfl, rfl, h.2.2.2.2⟩) <|
      .andThen (Q := Sound Started) ?_ (.ret fun _ h => ⟨h.1, h.2.atRest⟩)
    exact .andThen (refillTimes_meets hpos _) <| .andThen (.write fun s h => ⟨h.1.writeBaseReload, h.2⟩) <|
      .andThen applyRate_meets <| .atomic fun s h => ⟨h.1.clearPendingAndEnable h.2.1, h.2⟩

/-- StOpen opens the file or leaves none open (R81). -/
theorem Sound.stOpen {s : State} (h : Sound Torn s) (name : Name) :
    Sound (fun x => if (stOpen name s).1 = true then Opened x else Torn x) (stOpen name s).2 := by
  refine ⟨h.1.stOpen name, ?_⟩
  obtain ⟨-, hopen⟩ | ⟨-, ⟨-, hopen⟩ | ⟨-, hopen⟩⟩ := stOpen_cases name s
  · rw [hopen]
    exact h.2
  · rw [hopen]
    simpa [Torn, State.phase] using h.2
  · rw [hopen]
    obtain ⟨hstopped, hie, hactive, -⟩ := h.2
    simp only [State.phase] at hstopped hie hactive
    simp [Opened, State.phase, hstopped, hie, hactive]

/-- START (R233, R237). -/
theorem startStream_meets (name : State → Name) :
    (startStream name).Meets (Sound Torn) fun _ => Sound AtRest := by
  refine .bind (.openFile (B := fun b x => if b = true then Opened x else Torn x) fun n _ h => h.stOpen n)
    fun opened => ?_
  cases opened with
  | false => exact .ret fun _ h => ⟨h.1, Torn.atRest h.2⟩
  | true => exact .bind parse_meets startParsed_meets

/-- Each command leads from rest to rest, with the invariants before each of its segments (R48). -/
theorem commandCode_meets (i : Instr) : (commandCode i).Meets (Sound AtRest) fun _ => RestInv := by
  cases i with
  | begin sel =>
    exact .andThen (.write fun s h => ⟨h.1.writeStorageSel sel, h.2⟩) <|
      .andThen (.atomic fun s h => ⟨h.1.silenceOutput, h.2⟩) (finish_meets _ _)
  | play name =>
    exact .andThen teardown_meets <| .andThen (.write fun s h => ⟨h.1.writeName name, h.2⟩) <|
      .andThen (.write fun s h => ⟨h.1.markNameValid, h.2⟩) <|
      .bind (startStream_meets _) fun st => finish_meets _ _
  | stop => exact .andThen (teardown_meets.post fun _ _ h => ⟨h.1, h.2.atRest⟩) (finish_meets _ _)
  | pause mute =>
    refine .bind (.ask (B := fun b x => AtRest x ∧ (b = true → x.pstate = .playing)) fun s h =>
      ⟨h, by simp [State.phase]⟩) fun playing => ?_
    cases playing with
    | false => exact (finish_meets _ _).pre fun s h => ⟨h.1, h.2.1⟩
    | true =>
      exact .andThen (.atomic (B := fun x => AtRest x ∧ x.pstate = .playing ∧ x.ie = false) fun s h =>
          ⟨h.1.disableInterrupt, h.2.1, h.2.2 rfl, rfl⟩) <|
        .andThen (.when (fun s _ h => ⟨h.1.silenceOutput, h.2⟩) fun _ _ h => h) <|
        .andThen (.write fun s h => ⟨h.1.markPaused h.2.2.1 h.2.2.2, h.2.1⟩) (finish_meets _ _)
  | resume =>
    refine .bind (.ask (B := fun b x => AtRest x ∧ (b = true → x.pstate = .paused)) fun s h =>
      ⟨h, by simp [State.phase]⟩) fun paused => ?_
    cases paused with
    | false => exact (finish_meets _ _).pre fun s h => ⟨h.1, h.2.1⟩
    | true =>
      exact .andThen (.write (B := fun x => AtRest x ∧ x.pstate = .playing) fun s h =>
          ⟨h.1.markPlaying (h.2.2 rfl), h.2.1, rfl⟩) <|
        .andThen (.atomic fun s h => ⟨h.1.clearPendingAndEnable h.2.2, h.2.1⟩) (finish_meets _ _)
  | update =>
    refine .bind .askAny fun idle => ?_
    split
    · exact finish_meets _ _
    · refine .bind .askAny fun ended => ?_
      split
      · refine .bind .askAny fun looping => ?_
        split
        · exact .bind (.andThen teardown_meets (startStream_meets _)) fun st => finish_meets _ _
        · exact .andThen (teardown_meets.post fun _ _ h => ⟨h.1, h.2.atRest⟩) (finish_meets _ _)
      · exact .andThen (refill_meets fun _ _ h => h) (finish_meets _ _)
  | setVolume v => exact .andThen (.atomic fun s h => ⟨h.1.writeVolume v, h.2⟩) (finish_meets _ _)
  | setRate q =>
    exact .andThen (writeRate_meets _) (.andThen applyRate_meets (finish_meets _ _))
  | setArg idx v =>
    exact .andThen (.write fun s h => ⟨h.1.writeArg idx v, by simpa [State.phase, writeArg_cases] using h.2⟩)
      (finish_meets _ _)
  | setSpeedPulse p =>
    rw [commandCode, setSpeedPulseCode_eq]
    refine .bind (Q := fun _ => Sound AtRest) ?_ fun x =>
      .andThen (writeRate_meets x) (.andThen applyRate_meets (finish_meets _ _))
    exact .bind .numberAny fun _ => .bind .numberAny fun _ => .bind .numberAny fun _ =>
      .bind .numberAny fun _ => .bind .integer fun _ => .bind .integer fun _ =>
      .bind .fraction fun _ => .integer
  | setLoop b => exact .andThen (.write fun s h => ⟨h.1.writeLoopFlag b, h.2⟩) (finish_meets _ _)
  | nop | isPlaying | isPaused | getSampleRate | getBuffered | getLoop => exact finish_meets _ _

/-- The same of every word: an illegal one only responds (R107). -/
theorem wordCode_meets (w : Word) : (wordCode w).Meets (Sound AtRest) fun _ => RestInv := by
  unfold wordCode
  split
  · exact commandCode_meets _
  · exact finish_meets _ _

/-! ### The invariants at every step -/

theorem throughout_of_idle {I J : State → Prop} {s : State} (hbusy : s.busy = false) (hseq : s.seq = .idle) :
    Throughout I J s ↔ J s := by simp only [Throughout, hbusy, hseq]

theorem throughout_of_running {I J : State → Prop} {s : State} {w : Word} {answers : List Answer}
    (h : Running w answers s) :
    Throughout I J s ↔ ((wordCode w).after answers).Keeps I (fun _ => J) s := by
  obtain ⟨hbusy, hseq⟩ := h
  simp only [Throughout, hbusy, hseq]

/-- Where an invariant stands throughout, the state is between commands or in the middle of one. -/
theorem throughout_cases {I J : State → Prop} {s : State} (h : Throughout I J s) :
    (s.busy = false ∧ s.seq = .idle ∧ J s) ∨ ∃ w answers, Running w answers s ∧
      ((wordCode w).after answers).Keeps I (fun _ => J) s := by
  cases hbusy : s.busy <;> cases hseq : s.seq
  case false.idle => exact .inl ⟨rfl, rfl, (throughout_of_idle hbusy hseq).mp h⟩
  case true.run w answers =>
    exact .inr ⟨w, answers, ⟨hbusy, hseq⟩, (throughout_of_running ⟨hbusy, hseq⟩).mp h⟩
  all_goals
    simp only [Throughout, hbusy, hseq] at h

theorem Code.Ends.after {c : Code Unit} (hc : c.Ends) (answers : List Answer) :
    (c.after answers).Ends ∨ c.after answers = .ret () := by
  induction answers generalizing c with
  | nil => cases c <;> exact .inl hc
  | cons a rest ih =>
    cases c with
    | ret v => exact .inr rfl
    | seg effect next =>
      obtain ⟨-, hends⟩ | ⟨-, hret⟩ := hc
      · exact ih (hends a)
      · refine .inr ?_
        rw [Code.after, hret]
        cases rest <;> rfl

/-- The next segment keeps what is kept throughout, for as long as the command runs, and after its last one
too (R25, R111). -/
theorem throughout_runSegment {I J : State → Prop} {s : State} {w : Word} {answers : List Answer}
    (hs : Running w answers s) (h : ((wordCode w).after answers).Keeps I (fun _ => J) s)
    (hidle : (wordCode w).after answers ≠ .ret ()) : Throughout I J (runSegment s) := by
  obtain hends | hret := (wordCode_ends w).after answers
  · cases hafter : (wordCode w).after answers with
    | ret a => exact absurd hafter hidle
    | seg effect next =>
      rw [hafter] at h hends
      rw [runSegment_of_seg hs.seq hafter]
      obtain ⟨hon, -⟩ | ⟨hfin, hlast⟩ := hends
      · obtain ⟨hbusy, hseq, -⟩ := segment_of_goesOn hon hs.seq
        rw [throughout_of_running ⟨hbusy.trans hs.busy, hseq⟩, after_append_of_seg hafter]
        exact h.2
      · obtain ⟨hbusy, hseq, -⟩ := segment_of_finishes hfin s
        have hend := h.2
        rw [hlast] at hend
        exact (throughout_of_idle hbusy hseq).mpr hend
  · exact absurd hret hidle

theorem RestInv.sound {s : State} (h : RestInv s) : Sound AtRest s := ⟨h.toInv, h.open_iff⟩

/-- In the middle of a command something is left to run: at its end the state is at rest. -/
theorem not_ret_of_running {s : State} {w : Word} {answers : List Answer} (hs : Running w answers s)
    (h : ((wordCode w).after answers).Keeps Inv (fun _ => RestInv) s) :
    (wordCode w).after answers ≠ .ret () := by
  intro hret
  rw [hret] at h
  cases hs.busy.symm.trans (RestInv.not_busy h)

theorem Legal.inv {s : State} (h : Legal s) : Inv s := by
  obtain ⟨-, -, hrest⟩ | ⟨w, answers, hs, hkeeps⟩ := throughout_cases h
  · exact hrest.toInv
  · cases hafter : (wordCode w).after answers with
    | ret a => exact absurd hafter (not_ret_of_running hs hkeeps)
    | seg effect next =>
      rw [hafter] at hkeeps
      exact hkeeps.1

/-- A legal state between commands is at rest. -/
theorem Legal.rest {s : State} (h : Legal s) (hbusy : s.busy = false) : RestInv s := by
  obtain ⟨-, -, hrest⟩ | ⟨w, answers, hs, -⟩ := throughout_cases h
  · exact hrest
  · cases hs.busy.symm.trans hbusy

theorem RestInv.legal {s : State} (h : RestInv s) : Legal s :=
  (throughout_of_idle h.not_busy h.seq_idle).mpr h

/-- Settles O15: each command's code meets the invariants before each segment, and what the host and the sample
clock do between commands keeps them. -/
theorem stepKeepsInvariants : Obligations.StepKeepsInvariants := by
  refine ⟨fun s => Legal.inv, fun s t h hstep => ?_⟩
  obtain ⟨hbusy, rfl⟩ | ⟨hbusy, hidle⟩ := step_cases hstep
  · obtain ⟨hfalse, -⟩ | ⟨w, answers, hs, hkeeps⟩ := throughout_cases h
    · cases hbusy.symm.trans hfalse
    · exact throughout_runSegment hs hkeeps (not_ret_of_running hs hkeeps)
  · have hrest := h.rest hbusy
    have haccepted : ∀ w host, Sound AtRest (acceptWord w { s with host := host }) := fun w host =>
      ⟨(hrest.toInv.withHost host).acceptWord w, hrest.open_iff⟩
    obtain ⟨w, rest, -, rfl⟩ | ⟨w, rest, -, rfl⟩ | ⟨pos, rest, -, rfl⟩ | ⟨rest, rfl⟩ := hidle
    · exact (wordCode_meets w _ (haccepted w rest)).of_run.legal
    · refine (throughout_of_running (w := w) (answers := []) ⟨rfl, rfl⟩).mpr ?_
      have hmeets := wordCode_meets w _ (haccepted w rest)
      rwa [Code.after]
    · exact RestInv.legal { (hrest.toInv.withHost rest).hostMoveCursor pos with
        open_iff := hrest.open_iff, not_busy := hrest.not_busy, seq_idle := hrest.seq_idle }
    · exact RestInv.legal { (hrest.toInv.withHost rest).passTime with
        open_iff := by simpa using hrest.open_iff
        not_busy := by simpa using hrest.not_busy
        seq_idle := by simpa using hrest.seq_idle }

/-! ### Reset -/

theorem ringInv_reset : RingInv State.reset where
  count_le := Nat.zero_le _
  rd_lt := Config.params.bufCap_pos
  wr_lt := Config.params.bufCap_pos
  wr_eq := (slotAfter_zero (cfg := Config.params) (i := 0) Config.params.bufCap_pos).symm
  written := fun n hn => by simp [State.reset] at hn
  rb_wf := wf_reset
  rb_lt := fun c hc => by simp [State.reset] at hc

/-- Each reload after reset is BASE_PERIOD of a rate of 0 (R340). -/
theorem inv_reset : Inv State.reset := by
  obtain ⟨hlo, hhi⟩ := basePeriod_mem Config.params 0
  have hbase := toNat_ofNat_basePeriod Config.params 0
  constructor
  case ring => exact ringInv_reset
  case files_le =>
    intro f hf
    obtain ⟨g, -, rfl⟩ := List.mem_map.mp hf
    exact List.length_take_le _ _
  all_goals simp [State.reset, Config.volMax, Config.rateMinQ, Config.rateMaxQ]
  all_goals omega

/-- Settles O14: after reset no stream is active, and each register lies in its range. -/
theorem resetMeetsInvariants : Obligations.ResetMeetsInvariants := by
  refine ⟨RestInv.legal { inv_reset with open_iff := rfl, not_busy := rfl, seq_idle := rfl }, ?_⟩
  exact (throughout_of_idle (s := State.reset) rfl rfl).mpr fun hactive => by cases hactive

end Machine

end Sys2Proof
end

section
/-! The timer behind every step (R190, R310, R312). -/

namespace Sys2Proof

namespace Machine

open Host

/-! ### The timer's registers -/

/-- The registers that a timer step reads and writes (R310). -/
structure Timer where
  tcnt : BitVec 16
  active : BitVec 16
  reg : BitVec 16
  tf : Bool

/-- A state's timer. -/
def State.timer (s : State) : Timer := ⟨s.tcnt, s.reloadActive, s.reloadReg, s.tf⟩

/-- A timer step on these registers alone. -/
def Timer.step (x : Timer) : Timer :=
  if x.tcnt = x.active then ⟨0, x.reg, x.reg, true⟩
  else { x with tcnt := BitVec.ofNat 16 (x.tcnt.toNat + 1) }

theorem timer_timerStep (s : State) : (timerStep s).timer = s.timer.step := by
  by_cases h : s.tcnt = s.reloadActive
  · rw [timerStep_of_eq h, Timer.step, if_pos (by exact h)]
    rfl
  · rw [timerStep_of_ne h, Timer.step, if_neg (by exact h)]
    rfl

theorem timer_iterate (n : Nat) (s : State) : (timerStep^[n] s).timer = Timer.step^[n] s.timer := by
  induction n with
  | zero => rfl
  | succ n ih => rw [Function.iterate_succ_apply', Function.iterate_succ_apply', timer_timerStep, ih]

/-- The same timer, but that `x` may have lost its pending tick. -/
structure Timer.Le (x y : Timer) : Prop where
  tcnt : x.tcnt = y.tcnt
  active : x.active = y.active
  reg : x.reg = y.reg
  tf : x.tf = true → y.tf = true

theorem Timer.Le.refl (x : Timer) : x.Le x := ⟨rfl, rfl, rfl, id⟩

theorem Timer.Le.of_eq {x y : Timer} (h : x = y) : x.Le y := h ▸ .refl x

theorem Timer.Le.trans {x y z : Timer} (h : x.Le y) (k : y.Le z) : x.Le z :=
  ⟨h.tcnt.trans k.tcnt, h.active.trans k.active, h.reg.trans k.reg, k.tf ∘ h.tf⟩

theorem Timer.Le.step {x y : Timer} (h : x.Le y) : x.step.Le y.step := by
  obtain ⟨hc, ha, hr, htf⟩ := h
  unfold Timer.step
  rw [hc, ha, hr]
  split
  · exact ⟨rfl, rfl, rfl, id⟩
  · exact ⟨rfl, rfl, rfl, htf⟩

theorem Timer.Le.iterate {x y : Timer} (h : x.Le y) (n : Nat) : (Timer.step^[n] x).Le (Timer.step^[n] y) := by
  induction n with
  | zero => exact h
  | succ n ih => simpa only [Function.iterate_succ_apply'] using ih.step

/-! ### The timer steps that were drawn -/

/-- Where the record of the numbers is given by the script, no other number was drawn. -/
theorem TimerStepsDrawn.unique {m n : Nat} {s t : State} (h : TimerStepsDrawn m s t)
    (k : TimerStepsDrawn n s t) (ht : t.timerScript ≠ []) : m = n := by
  obtain ⟨a, f, ha, hf, -, -, rfl⟩ := h
  obtain ⟨b, g, hb, hg, -, -, rfl⟩ := k
  obtain rfl : a = b := List.append_cancel_right (ha.symm.trans hb)
  rw [hf ht, hg ht]

theorem TimerStepsDrawn.of_eq {s t : State} (h : t.timerScript = s.timerScript) : TimerStepsDrawn 0 s t :=
  ⟨[], [], by simp [h], fun _ => rfl, .nil, by simp, rfl⟩

/-- `n` timer steps were drawn, and the timer runs on by them; a pending tick may be taken, but not with the
interrupt off. -/
structure Runs (n : Nat) (s t : State) : Prop where
  drawn : TimerStepsDrawn n s t
  draws : s.draws ≤ t.draws
  timer : t.timer.Le (Timer.step^[n] s.timer)
  off : s.ie = false → t.ie = false → t.timer = Timer.step^[n] s.timer

/-- Neither reads nor writes the timer. -/
theorem Runs.of_eq {s t : State} (hscript : t.timerScript = s.timerScript) (hdraws : s.draws ≤ t.draws)
    (htimer : t.timer = s.timer) : Runs 0 s t := ⟨.of_eq hscript, hdraws, .of_eq htimer, fun _ _ => htimer⟩

theorem Runs.trans {m n : Nat} {s t u : State} (h : Runs m s t) (k : Runs n t u)
    (hie : s.ie = false → u.ie = false → t.ie = false) : Runs (m + n) s u where
  drawn := h.drawn.trans k.drawn h.draws k.draws
  draws := h.draws.trans k.draws
  timer := by
    rw [Nat.add_comm, Function.iterate_add_apply]
    exact k.timer.trans (h.timer.iterate n)
  off := fun hs hu => by
    rw [Nat.add_comm, Function.iterate_add_apply, k.off (hie hs hu) hu, h.off hs (hie hs hu)]

/-- The draw itself, with nothing run yet. -/
theorem drawTimerSteps_timer (s : State) :
    (drawTimerSteps s).2.timer = s.timer ∧ s.draws ≤ (drawTimerSteps s).2.draws := by
  unfold drawTimerSteps
  cases s.timerScript with
  | nil => exact ⟨rfl, Nat.le_succ _⟩
  | cons n rest => exact ⟨rfl, le_rfl⟩

theorem timer_interruptEntry (s : State) :
    (interruptEntry s).timer.Le s.timer ∧ (s.ie = false → (interruptEntry s).timer = s.timer) := by
  cases hdue : interruptDue s with
  | false =>
    rw [interruptEntry_of_not_due hdue]
    exact ⟨.refl _, fun _ => rfl⟩
  | true =>
    have hie : s.ie = true := by
      simp only [interruptDue, Bool.and_eq_true] at hdue
      exact hdue.1
    rw [interruptEntry_of_due hdue]
    refine ⟨⟨by simp [State.timer], by simp [State.timer], by simp [State.timer], by simp [State.timer]⟩, ?_⟩
    intro hfalse
    cases hie.symm.trans hfalse

theorem timer_runTimer (n : Nat) (s : State) :
    (runTimer n s).timer.Le (Timer.step^[n] s.timer) ∧
      (s.ie = false → (runTimer n s).timer = Timer.step^[n] s.timer) := by
  induction n generalizing s with
  | zero => exact ⟨.refl _, fun _ => rfl⟩
  | succ n ih =>
    obtain ⟨hle, heq⟩ := ih (interruptEntry (timerStep s))
    obtain ⟨hentry, hentryEq⟩ := timer_interruptEntry (timerStep s)
    rw [timer_timerStep] at hentry hentryEq
    refine ⟨hle.trans (hentry.iterate n), fun hie => ?_⟩
    have hstepped : (timerStep s).ie = false := by simpa using hie
    rw [runTimer, heq (by simpa using hie), hentryEq hstepped, Function.iterate_succ_apply]

/-- The time between two segments (R314). -/
theorem runs_gap (s : State) : Runs (drawTimerSteps s).1 s (gap s) := by
  obtain ⟨hdraw, hdraws⟩ := drawTimerSteps_timer s
  obtain ⟨hentry, hentryEq⟩ := timer_interruptEntry (drawTimerSteps s).2
  obtain ⟨hrun, hrunEq⟩ := timer_runTimer (drawTimerSteps s).1 (interruptEntry (drawTimerSteps s).2)
  rw [hdraw] at hentry hentryEq
  refine ⟨?_, ?_, hrun.trans (hentry.iterate _), fun hie _ => ?_⟩
  · simpa [TimerStepsDrawn, gap] using timerStepsDrawn_draw s
  · simpa [gap] using hdraws
  · rw [gap, hrunEq (by simpa using hie), hentryEq (by simpa using hie)]

/-- The time inside a critical section (R73). -/
theorem runs_hold (s : State) : Runs (drawTimerSteps s).1 s (hold s) := by
  obtain ⟨hdraw, hdraws⟩ := drawTimerSteps_timer s
  have hrun : (hold s).timer = Timer.step^[(drawTimerSteps s).1] s.timer := by
    rw [hold, holdTimer_eq, timer_iterate, hdraw]
  refine ⟨?_, ?_, .of_eq hrun, fun _ _ => hrun⟩
  · simpa [TimerStepsDrawn, hold] using timerStepsDrawn_draw s
  · simpa [hold] using hdraws

/-! ### Segments that leave the reload register -/

/-- The timer runs on, and the interrupt is as it was. -/
def RunsOn (s t : State) : Prop := (∃ n, Runs n s t) ∧ t.ie = s.ie

/-- The timer runs on, and the interrupt may be enabled. -/
def RunsUp (s t : State) : Prop := (∃ n, Runs n s t) ∧ (t.ie = false → s.ie = false)

/-- The timer runs on, and the interrupt may be disabled. -/
def RunsDown (s t : State) : Prop := (∃ n, Runs n s t) ∧ (s.ie = false → t.ie = false)

theorem RunsOn.up {s t : State} (h : RunsOn s t) : RunsUp s t := ⟨h.1, fun ht => h.2.symm.trans ht⟩

theorem RunsOn.down {s t : State} (h : RunsOn s t) : RunsDown s t := ⟨h.1, fun hs => h.2.trans hs⟩

theorem RunsUp.trans {s t u : State} (h : RunsUp s t) (k : RunsUp t u) : RunsUp s u := by
  obtain ⟨⟨m, hm⟩, hie⟩ := h
  obtain ⟨⟨n, hn⟩, kie⟩ := k
  exact ⟨⟨m + n, hm.trans hn fun _ => kie⟩, hie ∘ kie⟩

theorem RunsDown.trans {s t u : State} (h : RunsDown s t) (k : RunsDown t u) : RunsDown s u := by
  obtain ⟨⟨m, hm⟩, hie⟩ := h
  obtain ⟨⟨n, hn⟩, kie⟩ := k
  exact ⟨⟨m + n, hm.trans hn fun hs _ => hie hs⟩, kie ∘ hie⟩

theorem RunsOn.trans {s t u : State} (h : RunsOn s t) (k : RunsOn t u) : RunsOn s u := by
  obtain ⟨⟨m, hm⟩, hie⟩ := h
  obtain ⟨⟨n, hn⟩, kie⟩ := k
  exact ⟨⟨m + n, hm.trans hn fun hs _ => hie.trans hs⟩, kie.trans hie⟩

/-- A write of other registers. -/
theorem RunsOn.of_eq {s t : State} (hscript : t.timerScript = s.timerScript) (hdraws : s.draws ≤ t.draws)
    (htimer : t.timer = s.timer) (hie : t.ie = s.ie) : RunsOn s t := ⟨⟨0, .of_eq hscript hdraws htimer⟩, hie⟩

theorem RunsOn.refl (s : State) : RunsOn s s := .of_eq rfl le_rfl rfl rfl

theorem runsOn_gap (s : State) : RunsOn s (gap s) := ⟨⟨_, runs_gap s⟩, by simp⟩

theorem runsOn_hold (s : State) : RunsOn s (hold s) := ⟨⟨_, runs_hold s⟩, by simp⟩

theorem runsOn_advanceSeq (a : Answer) (s : State) : RunsOn s (advanceSeq a s) := .of_eq rfl le_rfl rfl rfl

/-- A critical section around a write of other registers. -/
theorem RunsOn.atomic {f : State → State} (h : ∀ s, RunsOn s (f s)) (s : State) :
    RunsOn s (hold (f (hold s))) := (runsOn_hold s).trans ((h _).trans (runsOn_hold _))

theorem runsOn_stRead (n : Nat) (s : State) : RunsOn s (stRead n s).2 := by
  unfold stRead drawReadCount
  cases s.readScript with
  | nil => exact .of_eq rfl (Nat.le_succ _) rfl rfl
  | cons k rest => exact .of_eq rfl le_rfl rfl rfl

theorem runsOn_drawOpenOk (s : State) : RunsOn s (drawOpenOk s).2 := by
  unfold drawOpenOk
  cases s.openScript with
  | nil => exact .of_eq rfl (Nat.le_succ _) rfl rfl
  | cons b rest => exact .of_eq rfl le_rfl rfl rfl

theorem runsOn_stOpen (name : Name) (s : State) : RunsOn s (stOpen name s).2 := by
  obtain ⟨-, hopen⟩ | ⟨-, ⟨-, hopen⟩ | ⟨-, hopen⟩⟩ := stOpen_cases name s
  · rw [hopen]
    exact .refl s
  · rw [hopen]
    exact runsOn_drawOpenOk s
  · rw [hopen]
    exact (runsOn_drawOpenOk s).trans (.of_eq rfl le_rfl rfl rfl)

theorem runsOn_pushAll (bytes : List Byte) (s : State) : RunsOn s (pushAll bytes s) :=
  .of_eq (by simp) (by simp) (by simp [State.timer]) (by simp)

/-- REFILL's segments leave the timer and the interrupt alone. -/
theorem refillSteps_runsOn : RefillSteps RunsOn where
  refl := .refl
  read := runsOn_stRead
  seek _ _ := .of_eq rfl le_rfl rfl rfl
  push b := .atomic (runsOn_pushAll b)
  advance _ _ := .of_eq rfl le_rfl rfl rfl
  latch _ := .of_eq rfl le_rfl rfl rfl

theorem RunsOn.run {α : Type} {c : Code α} (h : c.Steps RunsOn) (s : State) : RunsOn s (c.run s).2 :=
  h.run .refl RunsOn.trans runsOn_gap runsOn_advanceSeq s

theorem RunsUp.run {α : Type} {c : Code α} (h : c.Steps RunsUp) (s : State) : RunsUp s (c.run s).2 :=
  h.run (fun s => (RunsOn.refl s).up) RunsUp.trans (fun s => (runsOn_gap s).up)
    (fun a s => (runsOn_advanceSeq a s).up) s

theorem RunsDown.run {α : Type} {c : Code α} (h : c.Steps RunsDown) (s : State) : RunsDown s (c.run s).2 :=
  h.run (fun s => (RunsOn.refl s).down) RunsDown.trans (fun s => (runsOn_gap s).down)
    (fun a s => (runsOn_advanceSeq a s).down) s

theorem runsUp_enable (s : State) : RunsUp s (clearPendingAndEnable s) := by
  refine ⟨⟨0, .of_eq rfl, le_rfl, ⟨rfl, rfl, rfl, ?_⟩, ?_⟩, ?_⟩
  · exact fun htf => by cases htf
  · exact fun _ hie => by cases hie
  · exact fun hie => by cases hie

theorem runsDown_disable (s : State) : RunsDown s (disableInterrupt s) :=
  ⟨⟨0, .of_eq rfl le_rfl rfl⟩, fun _ => rfl⟩

/-- TEARDOWN disables the interrupt, and leaves the timer alone (R234). -/
theorem runsDown_teardown (s : State) : RunsDown s (teardown.run s).2 := by
  have hsteps : teardown.Steps RunsDown := teardown_steps (fun s => (RunsOn.refl s).down)
    (fun s => (runsOn_hold s).down.trans ((runsDown_disable _).trans (runsOn_hold _).down))
    (fun _ => RunsOn.down (.of_eq rfl le_rfl rfl rfl))
    fun s => (RunsOn.atomic (f := silenceAndStop) (fun _ => .of_eq rfl le_rfl rfl rfl) s).down
  exact RunsDown.run hsteps s

/-! ### One write of the reload register -/

/-- The timer runs on with at most one write of the reload register among its steps (R182, R190). -/
def RunsReloaded (s t : State) : Prop :=
  ∃ n m, TimerStepsDrawn (n + m) s t ∧ s.draws ≤ t.draws ∧
    t.timer.Le (Timer.step^[m] { Timer.step^[n] s.timer with reg := t.reloadReg }) ∧
    (s.ie = false → t.ie = false →
      t.timer = Timer.step^[m] { Timer.step^[n] s.timer with reg := t.reloadReg })

theorem timer_reg_iterate (n : Nat) (x : Timer) : (Timer.step^[n] x).reg = x.reg := by
  induction n with
  | zero => rfl
  | succ n ih =>
    rw [Function.iterate_succ_apply', Timer.step]
    split <;> exact ih

theorem Runs.reloadReg {n : Nat} {s t : State} (h : Runs n s t) : t.reloadReg = s.reloadReg :=
  h.timer.reg.trans (timer_reg_iterate n s.timer)

/-- No write is a write of what stands there. -/
theorem Runs.reloaded {n : Nat} {s t : State} (h : Runs n s t) : RunsReloaded s t := by
  have hreg : { Timer.step^[n] s.timer with reg := t.reloadReg } = Timer.step^[n] s.timer := by
    have hstays : (Timer.step^[n] s.timer).reg = t.reloadReg := h.timer.reg.symm
    rw [← hstays]
  refine ⟨n, 0, h.drawn, h.draws, ?_, ?_⟩ <;> rw [hreg]
  · exact h.timer
  · exact h.off

theorem RunsReloaded.then {n : Nat} {s t u : State} (h : RunsReloaded s t) (k : Runs n t u)
    (hie : s.ie = false → u.ie = false → t.ie = false) : RunsReloaded s u := by
  obtain ⟨i, j, hdrawn, hdraws, hle, heq⟩ := h
  refine ⟨i, j + n, ?_, hdraws.trans k.draws, ?_, fun hs hu => ?_⟩
  · rw [← Nat.add_assoc]
    exact hdrawn.trans k.drawn hdraws k.draws
  · rw [Nat.add_comm j, Function.iterate_add_apply, k.reloadReg]
    exact k.timer.trans (hle.iterate n)
  · rw [Nat.add_comm j, Function.iterate_add_apply, k.reloadReg, k.off (hie hs hu) hu, heq hs (hie hs hu)]

theorem Runs.then {n : Nat} {s t u : State} (h : Runs n s t) (k : RunsReloaded t u)
    (hie : s.ie = false → u.ie = false → t.ie = false) : RunsReloaded s u := by
  obtain ⟨i, j, hdrawn, hdraws, hle, heq⟩ := k
  have hmono : Timer.Le { Timer.step^[i] t.timer with reg := u.reloadReg }
      { Timer.step^[n + i] s.timer with reg := u.reloadReg } := by
    obtain ⟨hc, ha, -, htf⟩ := h.timer.iterate i
    rw [Nat.add_comm, Function.iterate_add_apply]
    exact ⟨hc, ha, rfl, htf⟩
  refine ⟨n + i, j, ?_, h.draws.trans hdraws, hle.trans (hmono.iterate j), fun hs hu => ?_⟩
  · rw [Nat.add_assoc]
    exact h.drawn.trans hdrawn h.draws hdraws
  · rw [heq (hie hs hu) hu, h.off hs (hie hs hu), Nat.add_comm, Function.iterate_add_apply]

/-- The write of the reload register in its critical section (R182). -/
theorem runsReloaded_reload (r : Nat) (s : State) : RunsReloaded s (hold (writeReload r (hold s))) := by
  have hwrite : RunsReloaded (hold s) (writeReload r (hold s)) :=
    ⟨0, 0, .of_eq rfl, le_rfl, .of_eq rfl, fun _ _ => rfl⟩
  exact ((runs_hold s).then hwrite (by simp)).then (runs_hold _) (by simp)

/-! ### A command reloads at most once -/

/-- The procedure leaves the timer running, with at most one write of the reload register. -/
def Code.Reloads {α : Type} (c : Code α) : Prop := ∀ s, RunsReloaded s (c.run s).2

section

variable {α β : Type}

theorem RunsOn.reloaded {s t : State} (h : RunsOn s t) : RunsReloaded s t :=
  let ⟨⟨_, hn⟩, _⟩ := h
  hn.reloaded

theorem Code.Reloads.of_on {c : Code α} (h : c.Steps RunsOn) : c.Reloads := fun s => (RunsOn.run h s).reloaded

/-- After what does not enable the interrupt. -/
theorem Code.Reloads.bind {c : Code α} {f : α → Code β} (hc : ∀ s, RunsDown s (c.run s).2)
    (hf : ∀ a, (f a).Reloads) : (c.bind f).Reloads := fun s => by
  obtain ⟨⟨n, hn⟩, hie⟩ := hc s
  rw [Code.run_bind]
  exact hn.then (hf _ _) fun hs _ => hie hs

theorem Code.Reloads.bindOn {c : Code α} {f : α → Code β} (hc : c.Steps RunsOn) (hf : ∀ a, (f a).Reloads) :
    (c.bind f).Reloads := .bind (fun s => (RunsOn.run hc s).down) hf

theorem Code.Reloads.andThenOn {c : Code α} {d : Code β} (hc : c.Steps RunsOn) (hd : d.Reloads) :
    (c.andThen d).Reloads := .bindOn hc fun _ => hd

/-- Before what does not disable the interrupt. -/
theorem Code.Reloads.before {c : Code α} {f : α → Code β} (hc : c.Reloads)
    (hf : ∀ a s, RunsUp s ((f a).run s).2) : (c.bind f).Reloads := fun s => by
  obtain ⟨⟨n, hn⟩, hie⟩ := hf (c.run s).1 (c.run s).2
  rw [Code.run_bind]
  exact (hc s).then hn fun _ => hie

end

theorem askOn (test : State → Bool) : (Code.ask test).Steps RunsOn := .ask .refl _

theorem finishOn (st : Status) (v : State → Word) : (Code.finish st v).Steps RunsOn :=
  .write fun _ => .of_eq rfl le_rfl rfl rfl

theorem applyRate_reloads : applyRate.Reloads := by
  refine .bindOn (.number .refl _) fun p1 => .bindOn (.number .refl _) fun p =>
    .bindOn (.number .refl _) fun r => ?_
  intro s
  have hwrite := (runs_gap s).then (runsReloaded_reload r (gap s)) (by simp)
  rw [Code.run_atomic]
  exact hwrite.then (n := 0) (.of_eq rfl le_rfl rfl) (by simp)

/-- APPLY_RATE and the response (R184, R187). -/
theorem applyRate_finish_reloads : (applyRate.andThen <| Code.finish .ok fun _ => 0).Reloads :=
  applyRate_reloads.before fun _ s => (RunsOn.run (finishOn _ _) s).up

/-- START reloads once, in APPLY_RATE, and enables the interrupt last (R241). -/
theorem startParsed_reloads (r : ParseResult) : (startParsed r).Reloads := by
  refine .andThenOn (askOn _) ?_
  cases r with
  | formatFail => exact .of_on (.andThen (.write fun _ => .of_eq rfl le_rfl rfl rfl) (.ret _))
  | ok start size rate =>
    refine .andThenOn (.assign .refl) <|
      .andThenOn (.atomic (RunsOn.atomic fun _ => .of_eq rfl le_rfl rfl rfl)) <|
      .before (.andThenOn (refillSteps_runsOn.refillTimes _) <|
        .andThenOn (.write fun _ => .of_eq rfl le_rfl rfl rfl) <|
        .before applyRate_reloads fun _ => RunsUp.run (.atomic fun s => ?_)) fun _ s => ?_
    · exact (runsOn_hold s).up.trans ((runsUp_enable _).trans (runsOn_hold _).up)
    · exact (RunsOn.refl s).up

theorem startStream_reloads (name : State → Name) : (startStream name).Reloads := by
  refine .bindOn (.openFile runsOn_stOpen) fun opened => ?_
  split
  · exact .bindOn refillSteps_runsOn.parse startParsed_reloads
  · exact .of_on (.ret _)

theorem commandCode_reloads (i : Instr) : (commandCode i).Reloads := by
  have hrate : ∀ x, (Code.write (writeRate x)).Steps RunsOn := fun x => .write fun _ => .of_eq rfl le_rfl rfl rfl
  have hup : ∀ st (v : State → Word) s, RunsUp s ((Code.finish st v).run s).2 :=
    fun st v s => (RunsOn.run (finishOn st v) s).up
  have htorn : ((teardown.andThen <| Code.finish .ok fun _ => 0) : Code Unit).Reloads :=
    .bind runsDown_teardown fun _ => .of_on (finishOn _ _)
  cases i with
  | begin sel =>
    exact .of_on <| .andThen (.write fun _ => .of_eq rfl le_rfl rfl rfl) <|
      .andThen (.atomic (RunsOn.atomic fun _ => .of_eq rfl le_rfl rfl rfl)) (finishOn _ _)
  | play name =>
    exact .bind runsDown_teardown fun _ => .andThenOn (.write fun _ => .of_eq rfl le_rfl rfl rfl) <|
      .andThenOn (.write fun _ => .of_eq rfl le_rfl rfl rfl) <|
      .before (startStream_reloads _) fun st => hup _ _
  | stop => exact htorn
  | pause mute =>
    refine .bindOn (askOn _) fun playing => ?_
    split
    · refine .bind (fun s => RunsDown.run (.atomic fun s => ?_) s) fun _ => .of_on <|
        .andThen (.when .refl fun _ => .of_eq rfl le_rfl rfl rfl) <|
        .andThen (.write fun _ => .of_eq rfl le_rfl rfl rfl) (finishOn _ _)
      exact (runsOn_hold s).down.trans ((runsDown_disable _).trans (runsOn_hold _).down)
    · exact .of_on (finishOn _ _)
  | resume =>
    refine .bindOn (askOn _) fun paused => ?_
    split
    · refine .andThenOn (.write fun _ => .of_eq rfl le_rfl rfl rfl) fun s => ?_
      have henable : ((Code.atomic clearPendingAndEnable).andThen <| Code.finish .ok fun _ => 0).Steps RunsUp :=
        .andThen (.atomic fun s => (runsOn_hold s).up.trans ((runsUp_enable _).trans (runsOn_hold _).up))
          (.write fun _ => RunsOn.up (.of_eq rfl le_rfl rfl rfl))
      obtain ⟨⟨n, hn⟩, -⟩ := RunsUp.run henable s
      exact hn.reloaded
    · exact .of_on (finishOn _ _)
  | update =>
    refine .bindOn (askOn _) fun idle => ?_
    split
    · exact .of_on (finishOn _ _)
    · refine .bindOn (askOn _) fun ended => ?_
      split
      · refine .bindOn (askOn _) fun looping => ?_
        split
        · exact .before (.bind runsDown_teardown fun _ => startStream_reloads _) fun st => hup _ _
        · exact htorn
      · exact .of_on (.andThen refillSteps_runsOn.refill (finishOn _ _))
  | setVolume v =>
    exact .of_on (.andThen (.atomic (RunsOn.atomic fun _ => .of_eq rfl le_rfl rfl rfl)) (finishOn _ _))
  | setRate q => exact .andThenOn (hrate _) applyRate_finish_reloads
  | setArg idx v =>
    refine .of_on (.andThen (.write fun s => ?_) (finishOn _ _))
    rw [writeArg_cases]
    exact .of_eq rfl le_rfl rfl rfl
  | setSpeedPulse p =>
    rw [commandCode, setSpeedPulseCode_eq]
    refine .bindOn ?_ fun x => .andThenOn (hrate x) applyRate_finish_reloads
    exact .bind (.number .refl _) fun _ => .bind (.number .refl _) fun _ =>
      .bind (.number .refl _) fun _ => .bind (.number .refl _) fun _ =>
      .bind (.integer .refl _) fun _ => .bind (.integer .refl _) fun _ =>
      .bind (.fraction .refl _) fun _ => .integer .refl _
  | setLoop b => exact .of_on (.andThen (.write fun _ => .of_eq rfl le_rfl rfl rfl) (finishOn _ _))
  | nop | isPlaying | isPaused | getSampleRate | getBuffered | getLoop => exact .of_on (finishOn _ _)

theorem wordCode_reloads (w : Word) : (wordCode w).Reloads := by
  unfold wordCode
  split
  · exact commandCode_reloads _
  · exact .of_on (finishOn _ _)

/-! ### One segment reloads at most once -/

/-- A critical section that changes the interrupt's enable at most. -/
theorem runsReloaded_atomic {f : State → State} (h : ∀ s, Runs 0 s (f s)) (s : State) :
    RunsReloaded s (hold (f (hold s))) := by
  have hbefore : RunsReloaded s (f (hold s)) :=
    ((runs_hold s).trans (h _) fun hs _ => by simpa using hs).reloaded
  exact hbefore.then (runs_hold _) (by simp)

theorem commandSteps_reloaded : CommandSteps RunsReloaded where
  refl s := (RunsOn.refl s).reloaded
  read n s := (runsOn_stRead n s).reloaded
  seek _ _ := RunsOn.reloaded (.of_eq rfl le_rfl rfl rfl)
  push b s := (RunsOn.atomic (runsOn_pushAll b) s).reloaded
  advance _ _ := RunsOn.reloaded (.of_eq rfl le_rfl rfl rfl)
  latch _ := RunsOn.reloaded (.of_eq rfl le_rfl rfl rfl)
  openFile n s := (runsOn_stOpen n s).reloaded
  close _ := RunsOn.reloaded (.of_eq rfl le_rfl rfl rfl)
  commit start size rate s :=
    (RunsOn.atomic (f := commitStream start size rate) (fun _ => .of_eq rfl le_rfl rfl rfl) s).reloaded
  base _ := RunsOn.reloaded (.of_eq rfl le_rfl rfl rfl)
  reload := runsReloaded_reload
  enable := runsReloaded_atomic fun _ =>
    ⟨.of_eq rfl, le_rfl, ⟨rfl, rfl, rfl, fun h => by cases h⟩, fun _ h => by cases h⟩
  select _ _ := RunsOn.reloaded (.of_eq rfl le_rfl rfl rfl)
  silence s := (RunsOn.atomic (f := silenceOutput) (fun _ => .of_eq rfl le_rfl rfl rfl) s).reloaded
  volume v s := (RunsOn.atomic (f := writeVolume v) (fun _ => .of_eq rfl le_rfl rfl rfl) s).reloaded
  rate _ _ := RunsOn.reloaded (.of_eq rfl le_rfl rfl rfl)
  arg idx v s := by
    rw [writeArg_cases]
    exact RunsOn.reloaded (.of_eq rfl le_rfl rfl rfl)
  loopFlag _ _ := RunsOn.reloaded (.of_eq rfl le_rfl rfl rfl)
  finish _ _ _ := RunsOn.reloaded (.of_eq rfl le_rfl rfl rfl)
  disable := runsReloaded_atomic fun _ => .of_eq rfl le_rfl rfl
  stop s := (RunsOn.atomic (f := silenceAndStop) (fun _ => .of_eq rfl le_rfl rfl rfl) s).reloaded
  name _ _ := RunsOn.reloaded (.of_eq rfl le_rfl rfl rfl)
  nameValid _ := RunsOn.reloaded (.of_eq rfl le_rfl rfl rfl)
  mute _ := RunsOn.reloaded (.of_eq rfl le_rfl rfl rfl)
  pause _ := RunsOn.reloaded (.of_eq rfl le_rfl rfl rfl)
  play _ := RunsOn.reloaded (.of_eq rfl le_rfl rfl rfl)

theorem runsOn_passTime (s : State) : RunsOn s (passTime s) := by
  have hlowered : RunsOn s { s with respValid := false } := .of_eq rfl le_rfl rfl rfl
  exact hlowered.trans (runsOn_gap _)

/-- One segment of a running command. -/
theorem runsReloaded_runSegment (s : State) : RunsReloaded s (runSegment s) := by
  obtain h | ⟨w, answers, effect, next, -, hafter, h⟩ := runSegment_cases s
  · rw [h]
    exact (runsOn_passTime s).reloaded
  · have hsteps := (commandSteps_reloaded.wordCode w).after answers
    rw [hafter] at hsteps
    have heffect := (runs_gap s).then (hsteps.1 (gap s)) fun hs _ => by simpa using hs
    rw [h]
    exact heffect.then (n := 0) (.of_eq rfl le_rfl rfl) (by simp [segment])

/-- Every step leaves the timer running, with at most one write of the reload register. -/
theorem runsReloaded_step {s t : State} (h : step s = .next t) : RunsReloaded s t := by
  obtain ⟨-, rfl⟩ | ⟨-, hidle⟩ := step_cases h
  · exact runsReloaded_runSegment s
  · obtain ⟨w, rest, -, rfl⟩ | ⟨w, rest, -, rfl⟩ | ⟨pos, rest, -, rfl⟩ | ⟨rest, rfl⟩ := hidle
    · have haccept : Runs 0 s (acceptWord w { s with host := rest }) := .of_eq rfl le_rfl rfl
      exact haccept.then (wordCode_reloads w _) fun hs _ => hs
    · exact RunsOn.reloaded (.of_eq rfl le_rfl rfl rfl)
    · exact RunsOn.reloaded (.of_eq rfl le_rfl rfl rfl)
    · have hhost : RunsOn s { s with host := rest } := .of_eq rfl le_rfl rfl rfl
      exact (hhost.trans (runsOn_passTime _)).reloaded

/-- Settles O11: no segment writes the timer's count or the reload in use, and a command writes the reload
register once at most. -/
theorem timerRunsFreely : Obligations.TimerRunsFreely := by
  intro s t h
  obtain ⟨n, m, hdrawn, -, hle, heq⟩ := runsReloaded_step h
  have hv : ({ timerStep^[n] s with reloadReg := t.reloadReg } : State).timer =
      { Timer.step^[n] s.timer with reg := t.reloadReg } := by
    rw [← timer_iterate]
    rfl
  refine ⟨⟨n, m, hdrawn, ?_⟩, fun hquiet => ?_⟩
  · have hiterate := timer_iterate m { timerStep^[n] s with reloadReg := t.reloadReg }
    rw [hv] at hiterate
    rw [← hiterate] at hle heq
    exact ⟨hle.tcnt, hle.active, hle.tf, fun hs ht => congrArg Timer.tf (heq hs ht)⟩
  · have hzero : n + m = 0 := hdrawn.unique hquiet.2 hquiet.1
    obtain ⟨rfl, rfl⟩ : n = 0 ∧ m = 0 := by omega
    exact ⟨hle.tcnt, hle.active⟩

end Machine

end Sys2Proof
end

section
/-! The ring's accounts: what pushes and ticks together make of it (R133, R134, R138). -/

namespace Sys2Proof

namespace Machine

/-! ### Slots and lists -/

theorem slotAfter_slotAfter {cfg : Params} {i j : BitVec 16} {k : Nat} (h : j.toNat = slotAfter cfg i k)
    (n : Nat) : slotAfter cfg j n = slotAfter cfg i (k + n) := by
  rw [slotAfter, h, slotAfter, slotAfter, Nat.mod_add_mod, Nat.add_assoc]

theorem drop_append_drop {α : Type} {l r x : List α} {p : Nat} (hp : p ≤ (l ++ r).length) (q : Nat) :
    (((l ++ r).drop p) ++ x).drop q = (l ++ (r ++ x)).drop (p + q) := by
  rw [← List.append_assoc, ← List.drop_drop, List.drop_append_of_le_length hp]

/-! ### The accounts -/

/-- Between `s` and `t` the bytes were pushed, `popped` bytes were popped, and the timer made `steps` steps. -/
structure Moves (bytes : List Byte) (steps popped : Nat) (s t : State) : Prop where
  cfg : t.cfg = s.cfg
  ie : t.ie = s.ie
  tf : steps = 0 → s.tf = false → t.tf = false
  count : t.count.toNat + popped = s.count.toNat + bytes.length
  count_le : s.count.toNat ≤ s.cfg.bufCap → t.count.toNat ≤ s.cfg.bufCap
  rd : s.rd.toNat < s.cfg.bufCap → t.rd.toNat = slotAfter s.cfg s.rd popped
  wr : s.wr.toNat < s.cfg.bufCap → t.wr.toNat = slotAfter s.cfg s.wr bytes.length
  slots : s.wr.toNat < s.cfg.bufCap → ∀ a, (∀ n, n < bytes.length → a ≠ slotAfter s.cfg s.wr n) →
    readByte t.rb a = readByte s.rb a
  contents : RingInv s → RingInv t ∧ ringContents t = (ringContents s ++ bytes).drop popped
  duty : popped = 0 → t.duty = s.duty ∨ t.duty = 127
  calm : s.ie = false ∨ (steps = 0 ∧ s.tf = false) → popped = 0 ∧ t.rd = s.rd ∧ t.duty = s.duty

theorem Moves.trans {b b' : List Byte} {m n p q : Nat} {s t u : State} (h : Moves b m p s t)
    (k : Moves b' n q t u) : Moves (b ++ b') (m + n) (p + q) s u where
  cfg := k.cfg.trans h.cfg
  ie := k.ie.trans h.ie
  tf hsteps hs := k.tf (by omega) (h.tf (by omega) hs)
  count := by
    have hcount := h.count
    have kcount := k.count
    rw [List.length_append]
    omega
  count_le hs := by
    have hle := k.count_le
    rw [h.cfg] at hle
    exact hle (h.count_le hs)
  rd hs := by
    have htrd := h.rd hs
    have hurd := k.rd
    rw [h.cfg, slotAfter_slotAfter htrd] at hurd
    exact hurd (htrd ▸ slotAfter_lt ..)
  wr hs := by
    have htwr := h.wr hs
    have huwr := k.wr
    rw [h.cfg, slotAfter_slotAfter htwr] at huwr
    rw [List.length_append]
    exact huwr (htwr ▸ slotAfter_lt ..)
  slots hs a ha := by
    have htwr := h.wr hs
    have hwr : t.wr.toNat < t.cfg.bufCap := by
      rw [h.cfg, htwr]
      exact slotAfter_lt ..
    rw [List.length_append] at ha
    rw [k.slots hwr a fun n hn => ?_, h.slots hs a fun n hn => ha n (by omega)]
    rw [h.cfg, slotAfter_slotAfter htwr]
    exact ha _ (by omega)
  contents hs := by
    obtain ⟨ht, hcontents⟩ := h.contents hs
    obtain ⟨hu, kcontents⟩ := k.contents ht
    have hcount := h.count
    refine ⟨hu, ?_⟩
    rw [kcontents, hcontents, drop_append_drop]
    rw [List.length_append, length_ringContents]
    omega
  duty hzero := by
    obtain hq | hq := k.duty (by omega)
    · rw [hq]
      exact h.duty (by omega)
    · exact .inr hq
  calm hcalm := by
    obtain ⟨hp, hrd, hduty⟩ := h.calm (hcalm.imp_right fun ⟨hzero, htf⟩ => ⟨by omega, htf⟩)
    obtain ⟨hq, krd, kduty⟩ := k.calm <|
      hcalm.imp (fun hie => h.ie.trans hie) fun ⟨hzero, htf⟩ => ⟨by omega, h.tf (by omega) htf⟩
    exact ⟨by omega, krd.trans hrd, kduty.trans hduty⟩

/-- What leaves the ring, the interrupt and the output alone. -/
theorem Moves.of_eq {n : Nat} {s t : State} (hcfg : t.cfg = s.cfg) (hie : t.ie = s.ie)
    (htf : n = 0 → s.tf = false → t.tf = false) (hcount : t.count = s.count) (hrd : t.rd = s.rd)
    (hwr : t.wr = s.wr) (hrb : t.rb = s.rb) (hduty : t.duty = s.duty) : Moves [] n 0 s t where
  cfg := hcfg
  ie := hie
  tf := htf
  count := by simp [hcount]
  count_le hs := by rwa [hcount]
  rd hs := by rw [hrd, slotAfter_zero hs]
  wr hs := by rw [hwr, List.length_nil, slotAfter_zero hs]
  slots _ _ _ := by rw [hrb]
  contents hs := by
    refine ⟨⟨?_, ?_, ?_, ?_, ?_, ?_, ?_⟩, ?_⟩
    · rw [hcount, hcfg]
      exact hs.count_le
    · rw [hrd, hcfg]
      exact hs.rd_lt
    · rw [hwr, hcfg]
      exact hs.wr_lt
    · rw [hwr, hcfg, hrd, hcount]
      exact hs.wr_eq
    · rw [hcount, hrb, hcfg, hrd]
      exact hs.written
    · rw [hrb]
      exact hs.rb_wf
    · rw [hrb, hcfg]
      exact hs.rb_lt
    · rw [ringContents_congr hcfg hrd hcount hrb, List.append_nil, List.drop_zero]
  duty _ := .inl hduty
  calm _ := ⟨rfl, hrd, hduty⟩

/-! ### The sample clock -/

theorem moves_timerStep (s : State) : Moves [] 1 0 s (timerStep s) :=
  .of_eq (by simp) (by simp) (by simp) (by simp) (by simp) (by simp) (by simp) (by simp)

/-- TICK pops a byte if there is one (R307). -/
theorem moves_tick {s : State} (hie : s.ie = true) (htf : s.tf = true) :
    ∃ popped, Moves [] 0 popped s (tick { s with tf := false }) := by
  have hnot : ¬ (s.ie = false ∨ (0 = 0 ∧ s.tf = false)) := by simp [hie, htf]
  obtain hzero | hpos := Nat.eq_zero_or_pos s.count.toNat
  · have hkept : Moves [] 0 0 s { s with tf := false } :=
      .of_eq rfl rfl (fun _ _ => rfl) rfl rfl rfl rfl rfl
    rw [tick_of_empty (s := { s with tf := false }) hzero]
    refine ⟨0, { hkept with duty := fun _ => .inr rfl, calm := fun h => absurd h hnot, contents := fun hs => ?_ }⟩
    obtain ⟨hring, hcontents⟩ := hkept.contents hs
    exact ⟨{ hring with }, hcontents⟩
  · have hpred := toNat_count_pred s
    rw [tick_of_pos (s := { s with tf := false }) hpos]
    refine ⟨1, ⟨rfl, rfl, fun _ _ => rfl, ?_, fun hs => ?_, fun _ => toNat_ringNext _ _, fun hs => ?_,
      fun _ _ _ => rfl, fun hs => ?_, fun h => absurd h (by decide), fun h => absurd h hnot⟩⟩
    · simp only [hpred, List.length_nil]
      omega
    · simp only [hpred]
      omega
    · exact (slotAfter_zero hs).symm
    · have hring : RingInv (pop s).2 := hs.pop
      have hpop := ringContents_pop hs.rd_lt hpos
      rw [pop_of_pos hpos] at hring hpop
      rw [List.append_nil, hpop]
      exact ⟨{ hring with }, rfl⟩

theorem moves_interruptEntry (s : State) : ∃ popped, Moves [] 0 popped s (interruptEntry s) := by
  cases hdue : interruptDue s with
  | false =>
    rw [interruptEntry_of_not_due hdue]
    exact ⟨0, .of_eq rfl rfl (fun _ h => h) rfl rfl rfl rfl rfl⟩
  | true =>
    simp only [interruptDue, Bool.and_eq_true] at hdue
    rw [interruptEntry_of_due (by simp [interruptDue, hdue])]
    exact moves_tick hdue.1 hdue.2

theorem moves_runTimer (n : Nat) (s : State) : ∃ popped, Moves [] n popped s (runTimer n s) := by
  induction n generalizing s with
  | zero => exact ⟨0, .of_eq rfl rfl (fun _ h => h) rfl rfl rfl rfl rfl⟩
  | succ n ih =>
    obtain ⟨p, hp⟩ := moves_interruptEntry (timerStep s)
    obtain ⟨q, hq⟩ := ih (interruptEntry (timerStep s))
    refine ⟨0 + (p + q), ?_⟩
    have hall := (moves_timerStep s).trans (hp.trans hq)
    rwa [Nat.zero_add n, Nat.add_comm 1 n] at hall

theorem moves_holdTimer (n : Nat) (s : State) : Moves [] n 0 s (holdTimer n s) := by
  refine .of_eq (by simp) (by simp) ?_ (by simp) (by simp) (by simp) (by simp) (by simp)
  rintro rfl hs
  exact hs

/-- `bytes` were pushed, and the sample clock ran on. -/
def Passes (bytes : List Byte) (s t : State) : Prop :=
  ∃ steps popped, Runs steps s t ∧ Moves bytes steps popped s t

theorem Passes.trans {b b' : List Byte} {s t u : State} (h : Passes b s t) (k : Passes b' t u) :
    Passes (b ++ b') s u := by
  obtain ⟨m, p, hm, hp⟩ := h
  obtain ⟨n, q, hn, hq⟩ := k
  exact ⟨m + n, p + q, hm.trans hn fun hs _ => hp.ie.trans hs, hp.trans hq⟩

theorem moves_draw (s : State) : Moves [] 0 0 s (drawTimerSteps s).2 :=
  .of_eq (by simp) (by simp) (by simp) (by simp) (by simp) (by simp) (by simp) (by simp)

theorem passes_gap (s : State) : Passes [] s (gap s) := by
  obtain ⟨p, hp⟩ := moves_interruptEntry (drawTimerSteps s).2
  obtain ⟨q, hq⟩ := moves_runTimer (drawTimerSteps s).1 (interruptEntry (drawTimerSteps s).2)
  have hmoves := (moves_draw s).trans (hp.trans hq)
  simp only [Nat.zero_add] at hmoves
  exact ⟨_, p + q, runs_gap s, hmoves⟩

theorem passes_hold (s : State) : Passes [] s (hold s) := by
  have hmoves := (moves_draw s).trans (moves_holdTimer (drawTimerSteps s).1 (drawTimerSteps s).2)
  simp only [Nat.zero_add] at hmoves
  exact ⟨_, 0, runs_hold s, hmoves⟩

/-! ### Pushes -/

/-- An Accepted PUSH (R133). -/
theorem moves_push {s : State} (v : Byte) (h : s.count.toNat < s.cfg.bufCap) :
    Moves [v] 0 0 s (push v s).2 where
  cfg := by simp
  ie := by simp
  tf _ hs := by simpa using hs
  count := by
    obtain ⟨-, hpush⟩ | ⟨hfull, -⟩ := push_cases v s
    · rw [hpush]
      exact toNat_count_succ h
    · omega
  count_le _ := by
    obtain ⟨-, hpush⟩ | ⟨hfull, -⟩ := push_cases v s
    · rw [hpush]
      exact (toNat_count_succ h).trans_le h
    · omega
  rd hs := by rw [slotAfter_zero hs]; simp
  wr hs := by
    rw [push_of_lt v hs h]
    exact toNat_ringNext _ _
  slots hs a ha := by
    have hne := ha 0 Nat.one_pos
    rw [slotAfter_zero hs] at hne
    rw [push_of_lt v hs h]
    simp only [readByte_writeByte, if_neg hne.symm]
  contents hs := ⟨hs.push v, by rw [ringContents_push hs v h, List.drop_zero]⟩
  duty _ := .inl (by simp)
  calm _ := ⟨rfl, by simp, by simp⟩

/-- Pushes that all find room (R246). -/
theorem moves_pushAll (bytes : List Byte) {s : State} (h : s.count.toNat + bytes.length ≤ s.cfg.bufCap) :
    Moves bytes 0 0 s (pushAll bytes s) := by
  induction bytes generalizing s with
  | nil => exact .of_eq rfl rfl (fun _ h => h) rfl rfl rfl rfl rfl
  | cons b rest ih =>
    rw [List.length_cons] at h
    have hpush := moves_push b (s := s) (by omega)
    have hcount := hpush.count
    have hroom : (push b s).2.count.toNat + rest.length ≤ (push b s).2.cfg.bufCap := by
      rw [hpush.cfg]
      rw [List.length_singleton] at hcount
      omega
    exact hpush.trans (ih hroom)

theorem passes_pushAll (bytes : List Byte) {s : State} (h : s.count.toNat + bytes.length ≤ s.cfg.bufCap) :
    Passes bytes s (pushAll bytes s) :=
  ⟨0, 0, .of_eq (by simp) (by simp) (by simp [State.timer]), moves_pushAll bytes h⟩

/-! ### Segments that write no ring register -/

theorem Passes.then {b : List Byte} {s t u : State} (h : Passes b s t) (k : Passes [] t u) : Passes b s u := by
  simpa using h.trans k

theorem Passes.after {b : List Byte} {s t u : State} (h : Passes [] s t) (k : Passes b t u) : Passes b s u :=
  h.trans k

theorem Passes.of_eq {s t : State} (hscript : t.timerScript = s.timerScript) (hdraws : s.draws ≤ t.draws)
    (htimer : t.timer = s.timer) (hcfg : t.cfg = s.cfg) (hie : t.ie = s.ie) (hcount : t.count = s.count)
    (hrd : t.rd = s.rd) (hwr : t.wr = s.wr) (hrb : t.rb = s.rb) (hduty : t.duty = s.duty) : Passes [] s t :=
  ⟨0, 0, .of_eq hscript hdraws htimer,
    .of_eq hcfg hie (fun _ hs => (congrArg Timer.tf htimer).trans hs) hcount hrd hwr hrb hduty⟩

theorem Passes.refl (s : State) : Passes [] s s := .of_eq rfl le_rfl rfl rfl rfl rfl rfl rfl rfl rfl

theorem passes_advanceSeq (a : Answer) (s : State) : Passes [] s (advanceSeq a s) :=
  .of_eq rfl le_rfl rfl rfl rfl rfl rfl rfl rfl rfl

theorem passes_stRead (n : Nat) (s : State) : Passes [] s (stRead n s).2 := by
  unfold stRead drawReadCount
  cases s.readScript with
  | nil => exact .of_eq rfl (Nat.le_succ _) rfl rfl rfl rfl rfl rfl rfl rfl
  | cons k rest => exact .of_eq rfl le_rfl rfl rfl rfl rfl rfl rfl rfl rfl

end Machine

end Sys2Proof
end

section
/-! REFILL, round by round (R246 to R249). -/

namespace Sys2Proof

namespace Machine

/-! ### What REFILL leaves alone -/

/-- The state with every field blanked out that REFILL may write, and those of the sample clock and the
sequencer. -/
def State.sansRefill (s : State) : State :=
  { s with
    seq := .idle, dataPos := 0, eod := false, rb := [], wr := 0, cur := 0, readScript := [], rd := 0, count := 0,
    tcnt := 0, reloadActive := 0, tf := false, duty := 0, timerScript := [], draws := 0 }

/-- The two states agree but for what REFILL and the sample clock write. -/
def RefillKept (s t : State) : Prop := t.sansRefill = s.sansRefill

theorem refillKept_segment (a : Answer) (s : State) : RefillKept s (advanceSeq a (gap s)) := by
  simp [RefillKept, State.sansRefill]

/-- A field outside the blanks. -/
theorem RefillKept.field {β : Type} {s t : State} (h : RefillKept s t) (field : State → β)
    (hf : ∀ u : State, field u.sansRefill = field u) : field t = field s := by
  rw [← hf t, h, hf]

theorem RefillKept.openBytes {s t : State} (h : RefillKept s t) : openBytes t = openBytes s :=
  h.field Machine.openBytes fun _ => rfl

/-! ### One round -/

/-- The occupancy that the round reads (R246). -/
def roundCount (s : State) : Nat := ((Code.number fun s => s.count.toNat).run s).1

/-- The state at the loop's test. -/
def roundCounted (s : State) : State := ((Code.number fun s => s.count.toNat).run s).2

/-- The state after the loop's test. -/
def roundAsked (s : State) : State :=
  ((Code.ask fun u => !refillWanted (roundCount s) u).run (roundCounted s)).2

/-- The round's chunk size (R247). -/
def roundSize (s : State) : Nat := chunkSize (roundCount s) s

/-- The state at the round's read. -/
def roundSized (s : State) : State := ((Code.number (chunkSize (roundCount s))).run (roundAsked s)).2

/-- The bytes that the round's read delivers (R247). -/
def roundBytes (s : State) : List Byte := ((Code.read (roundSize s)).run (roundSized s)).1

/-- The state after the round's read. -/
def roundRead (s : State) : State := ((Code.read (roundSize s)).run (roundSized s)).2

/-- The state after the round's pushes. -/
def roundPushed (s : State) : State := ((Code.atomic (pushAll (roundBytes s))).run (roundRead s)).2

/-- The state after the round's advance. -/
def roundAdvanced (s : State) : State :=
  ((Code.write (advancePos (roundBytes s).length)).run (roundPushed s)).2

/-- The state at the end of the round. -/
def roundEnd (s : State) : State :=
  ((Code.when (fun _ => (roundBytes s).length < roundSize s) latchEndOfData).run (roundAdvanced s)).2

/-- The test sees only the occupancy read before it and registers that the sample clock leaves alone. -/
theorem refillWanted_congr {c : Nat} {s t : State} (h : RefillKept s t) (hpos : t.dataPos = s.dataPos)
    (heod : t.eod = s.eod) : refillWanted c t = refillWanted c s := by
  have hcfg : t.cfg = s.cfg := h.field State.cfg fun _ => rfl
  have hsize : t.dataSize = s.dataSize := h.field State.dataSize fun _ => rfl
  simp only [refillWanted, hcfg, hsize, hpos, heod]

theorem refillWanted_round (s : State) :
    refillWanted (roundCount s) (gap (roundCounted s)) = refillWanted (roundCount s) s :=
  refillWanted_congr (by simp [RefillKept, State.sansRefill, roundCounted]) (by simp [roundCounted])
    (by simp [roundCounted])

theorem chunkSize_round (s : State) :
    ((Code.number (chunkSize (roundCount s))).run (roundAsked s)).1 = roundSize s := by
  simp [roundSize, chunkSize, roundAsked, roundCounted]

/-- A round whose test fails ends the loop (R246). -/
theorem refillLoop_run_of_enough {s : State} (h : refillWanted (roundCount s) s = false) (fuel : Nat) :
    (refillLoop (fuel + 1)).run s = ((), roundAsked s) := by
  rw [refillLoop, Code.run_bind, run_ask_bind (b := true) (congrArg Bool.not ((refillWanted_round s).trans h))]
  rfl

/-- What follows a chunk size in the loop (R247). -/
def roundRest (n fuel : Nat) : Code Unit :=
  (Code.read n).bind fun b =>
  (Code.atomic (pushAll b)).andThen <|
  (Code.write (advancePos b.length)).andThen <|
  (Code.when (fun _ => b.length < n) latchEndOfData).bind fun failed =>
  if failed then .ret () else refillLoop fuel

theorem roundRest_run (s : State) (fuel : Nat) :
    (roundRest (roundSize s) fuel).run (roundSized s) =
      if (roundBytes s).length < roundSize s then ((), roundEnd s) else (refillLoop fuel).run (roundEnd s) := by
  have hfailed : ((Code.when (fun _ => (roundBytes s).length < roundSize s) latchEndOfData).run
      (roundAdvanced s)).1 = decide ((roundBytes s).length < roundSize s) := rfl
  have hrun : (roundRest (roundSize s) fuel).run (roundSized s) =
      (if decide ((roundBytes s).length < roundSize s) = true then Code.ret () else refillLoop fuel).run
        (roundEnd s) := by
    rw [roundRest, Code.run_bind, Code.run_andThen, Code.run_andThen, Code.run_bind]
    rfl
  rw [hrun]
  by_cases h : (roundBytes s).length < roundSize s
  · rw [if_pos h, if_pos (by simpa using h), Code.run_ret]
  · rw [if_neg h, if_neg (by simpa using h)]

/-- A round whose test holds reads, pushes, advances, and ends the loop if the read fell short (R247). -/
theorem refillLoop_run_of_wanted {s : State} (h : refillWanted (roundCount s) s = true) (fuel : Nat) :
    (refillLoop (fuel + 1)).run s =
      if (roundBytes s).length < roundSize s then ((), roundEnd s) else (refillLoop fuel).run (roundEnd s) := by
  have hrun : (refillLoop (fuel + 1)).run s =
      (roundRest ((Code.number (chunkSize (roundCount s))).run (roundAsked s)).1 fuel).run (roundSized s) := by
    rw [refillLoop, Code.run_bind, run_ask_bind (b := false) (congrArg Bool.not ((refillWanted_round s).trans h)),
      if_neg (by decide), Code.run_bind]
    rfl
  rw [hrun, chunkSize_round, roundRest_run]

/-! ### What a round does -/

theorem refillWanted_iff {c : Nat} {s : State} : refillWanted c s = true ↔
    c < s.cfg.bufCap - s.cfg.margin ∧ s.dataPos.toNat < s.dataSize.toNat ∧ s.eod = false := by
  simp [refillWanted, and_assoc]

/-- A wanted round asks for at least a byte, and for no more than there is room and data for (R247). -/
theorem roundSize_mem {s : State} (h : refillWanted (roundCount s) s = true) :
    0 < roundSize s ∧ roundSize s ≤ Config.chunkMax ∧ roundCount s + roundSize s ≤ s.cfg.bufCap ∧
      s.dataPos.toNat + roundSize s ≤ s.dataSize.toNat := by
  obtain ⟨hcount, hdata, -⟩ := refillWanted_iff.mp h
  simp only [roundSize, chunkSize, Config.chunkMax]
  omega

theorem length_roundBytes_le (s : State) : (roundBytes s).length ≤ roundSize s := stRead_length _ _

theorem passes_segment (a : Answer) (s : State) : Passes [] s (advanceSeq a (gap s)) :=
  (passes_gap s).then (passes_advanceSeq a _)

theorem passes_write {f : State → State} (h : ∀ s, Passes [] s (f s)) (s : State) :
    Passes [] s ((Code.write f).run s).2 := ((passes_gap s).then (h _)).then (passes_advanceSeq _ _)

theorem passes_when {test : State → Bool} {f : State → State} (h : ∀ s, Passes [] s (f s)) (s : State) :
    Passes [] s ((Code.when test f).run s).2 := by
  refine ((passes_gap s).then ?_).then (passes_advanceSeq _ _)
  cases htest : test (gap s) with
  | true => simpa [htest] using h (gap s)
  | false => simpa [htest] using Passes.refl (gap s)

theorem passes_advancePos (k : Nat) (s : State) : Passes [] s (advancePos k s) :=
  .of_eq rfl le_rfl rfl rfl rfl rfl rfl rfl rfl rfl

theorem passes_latchEndOfData (s : State) : Passes [] s (latchEndOfData s) :=
  .of_eq rfl le_rfl rfl rfl rfl rfl rfl rfl rfl rfl

theorem passes_stSeek (pos : Nat) (s : State) : Passes [] s (stSeek pos s) :=
  .of_eq rfl le_rfl rfl rfl rfl rfl rfl rfl rfl rfl

theorem passes_read (n : Nat) (s : State) : Passes [] s ((Code.read n).run s).2 :=
  ((passes_gap s).then (passes_stRead n _)).then (passes_advanceSeq _ _)

/-- From the reading of the occupancy to the pushes only the sample clock moves the ring. -/
theorem passes_roundRead (s : State) : Passes [] (gap s) (roundRead s) := by
  have hasked : Passes [] (gap s) (roundAsked s) := (passes_advanceSeq _ _).then (passes_segment _ _)
  have hsized : Passes [] (roundAsked s) (roundSized s) := passes_segment _ _
  exact (hasked.then hsized).then (passes_read _ _)

theorem Passes.cfg {b : List Byte} {s t : State} (h : Passes b s t) : t.cfg = s.cfg := by
  obtain ⟨_, _, -, hmoves⟩ := h
  exact hmoves.cfg

theorem Passes.ie {b : List Byte} {s t : State} (h : Passes b s t) : t.ie = s.ie := by
  obtain ⟨_, _, -, hmoves⟩ := h
  exact hmoves.ie

/-- The sample clock only takes bytes out. -/
theorem Passes.count_le {s t : State} (h : Passes [] s t) : t.count.toNat ≤ s.count.toNat := by
  obtain ⟨_, popped, -, hmoves⟩ := h
  have hcount := hmoves.count
  rw [List.length_nil] at hcount
  omega

/-- The round's pushes all find room (R247). -/
theorem passes_roundPushed {s : State} (h : refillWanted (roundCount s) s = true) :
    Passes (roundBytes s) s (roundPushed s) := by
  obtain ⟨-, -, hroom, -⟩ := roundSize_mem h
  have hbefore : Passes [] (gap s) (hold (gap (roundRead s))) :=
    ((passes_roundRead s).then (passes_gap _)).then (passes_hold _)
  have hcount : (hold (gap (roundRead s))).count.toNat ≤ roundCount s := hbefore.count_le
  have hlength := length_roundBytes_le s
  have hcfg : (hold (gap (roundRead s))).cfg = s.cfg := hbefore.cfg.trans (by simp)
  have hpush : Passes (roundBytes s) (hold (gap (roundRead s)))
      (pushAll (roundBytes s) (hold (gap (roundRead s)))) := passes_pushAll _ (by rw [hcfg]; omega)
  have hend := (((passes_gap s).then hbefore).after hpush).then (passes_hold _)
  exact hend.then (passes_advanceSeq _ _)

/-- The ring's accounts of a round. -/
theorem passes_round {s : State} (h : refillWanted (roundCount s) s = true) :
    Passes (roundBytes s) s (roundEnd s) := by
  have hadvanced : Passes [] (roundPushed s) (roundAdvanced s) := passes_write (passes_advancePos _) _
  have hend : Passes [] (roundAdvanced s) (roundEnd s) := passes_when passes_latchEndOfData _
  exact ((passes_roundPushed h).then hadvanced).then hend

theorem round_kept (s : State) : RefillKept s (roundEnd s) := by
  by_cases hshort : (roundBytes s).length < roundSize s <;>
    simp [RefillKept, State.sansRefill, roundEnd, hshort, roundAdvanced, roundPushed, roundRead, roundSized,
      roundAsked, roundCounted]

/-- A round moves `dataPos` on by what it read (R247). -/
theorem dataPos_roundEnd {s : State} (h : refillWanted (roundCount s) s = true) :
    (roundEnd s).dataPos.toNat = s.dataPos.toNat + (roundBytes s).length := by
  obtain ⟨-, -, -, hdata⟩ := roundSize_mem h
  have hlength := length_roundBytes_le s
  have hlt := s.dataSize.isLt
  have hpushed : (roundPushed s).dataPos = s.dataPos := by
    simp [roundPushed, roundRead, roundSized, roundAsked, roundCounted]
  have hend : (roundEnd s).dataPos = BitVec.ofNat 32 (s.dataPos.toNat + (roundBytes s).length) := by
    rw [← hpushed]
    by_cases hshort : (roundBytes s).length < roundSize s <;> simp [roundEnd, hshort, roundAdvanced]
  rw [hend]
  exact Nat.mod_eq_of_lt (by omega)

/-- A round that falls short latches `eod` (R247). -/
theorem eod_roundEnd {s : State} (h : refillWanted (roundCount s) s = true) :
    (roundEnd s).eod = decide ((roundBytes s).length < roundSize s) := by
  obtain ⟨-, -, heod⟩ := refillWanted_iff.mp h
  by_cases hshort : (roundBytes s).length < roundSize s
  · simp [roundEnd, hshort]
  · simp [roundEnd, hshort, roundAdvanced, roundPushed, roundRead, roundSized, roundAsked, roundCounted, heod]

/-! ### The loop's bound -/

/-- Each round but the last reads a byte of what is left of the data, so more rounds than that are never run
(R249(a)). -/
theorem refillLoop_fuel (m n : Nat) {s : State} (hm : s.dataSize.toNat - s.dataPos.toNat < m)
    (hn : s.dataSize.toNat - s.dataPos.toNat < n) : (refillLoop m).run s = (refillLoop n).run s := by
  induction m generalizing n s with
  | zero => omega
  | succ m ih =>
    obtain ⟨n, rfl⟩ : ∃ k, n = k + 1 := ⟨n - 1, by omega⟩
    cases h : refillWanted (roundCount s) s with
    | false => rw [refillLoop_run_of_enough h, refillLoop_run_of_enough h]
    | true =>
      rw [refillLoop_run_of_wanted h, refillLoop_run_of_wanted h]
      by_cases hshort : (roundBytes s).length < roundSize s
      · rw [if_pos hshort, if_pos hshort]
      · rw [if_neg hshort, if_neg hshort]
        obtain ⟨hpos, -, -, hdata⟩ := roundSize_mem h
        have hmoved := dataPos_roundEnd h
        have hsize : (roundEnd s).dataSize = s.dataSize := (round_kept s).field State.dataSize fun _ => rfl
        have hread : s.dataSize.toNat - (s.dataPos.toNat + (roundBytes s).length) < m ∧
            s.dataSize.toNat - (s.dataPos.toNat + (roundBytes s).length) < n := by omega
        rw [← hmoved, ← hsize] at hread
        exact ih _ hread.1 hread.2

/-- Settles O54: `dataSize - dataPos` bounds the rounds that read something. -/
theorem refillFuelSuffices : Obligations.RefillFuelSuffices := by
  intro s n
  have hlt := s.dataSize.isLt
  refine ⟨?_, fun hn => refillLoop_fuel _ _ (by omega) (by omega)⟩
  rw [refillBound]
  omega

/-! ### What REFILL does -/

/-- The cursor stands at the next byte to read (R246, R248). -/
def Aligned (s : State) : Prop := s.cur.toNat = expectedOffset s

/-- `bytes` were read and pushed. -/
structure Refills (bytes : List Byte) (s t : State) : Prop where
  passes : Passes bytes s t
  kept : RefillKept s t
  pos : t.dataPos.toNat = s.dataPos.toNat + bytes.length
  pos_le : s.dataPos.toNat ≤ s.dataSize.toNat → t.dataPos.toNat ≤ s.dataSize.toNat
  idle : s.dataSize.toNat ≤ s.dataPos.toNat ∨ s.eod = true → bytes = []
  eod : s.eod = true → t.eod = true

/-- REFILL has come to its end: the bytes held before and those pushed reach the level, or the data is
exhausted, or `eod` is set (R347). -/
def Filled (bytes : List Byte) (s t : State) : Prop :=
  s.cfg.bufCap - s.cfg.margin ≤ s.count.toNat + bytes.length ∨ t.dataSize.toNat ≤ t.dataPos.toNat ∨
    t.eod = true

/-- The bytes read are those of the file from the next byte to read on (R246). -/
def FromFile (bytes : List Byte) (s : State) : Prop :=
  bytes = slice (openBytes s) (expectedOffset s) bytes.length

section

variable {b b' : List Byte} {s t u : State}

theorem Refills.dataSize (h : Refills b s t) : t.dataSize = s.dataSize := h.kept.field State.dataSize fun _ => rfl

theorem Refills.trans (h : Refills b s t) (k : Refills b' t u) : Refills (b ++ b') s u where
  passes := h.passes.trans k.passes
  kept := Eq.trans k.kept h.kept
  pos := by rw [k.pos, h.pos, List.length_append, Nat.add_assoc]
  pos_le hs := by
    have hle := k.pos_le
    rw [h.dataSize] at hle
    exact hle (h.pos_le hs)
  idle hs := by
    have hb := h.idle hs
    have hpos := h.pos
    rw [hb, List.length_nil] at hpos
    rw [hb, List.nil_append]
    exact k.idle (hs.imp (fun hle => by rw [h.dataSize]; omega) h.eod)
  eod := k.eod ∘ h.eod

/-- What reads and pushes nothing. -/
theorem Refills.of_passes (hpasses : Passes [] s t) (hkept : RefillKept s t) (hpos : t.dataPos = s.dataPos)
    (heod : s.eod = true → t.eod = true) : Refills [] s t :=
  ⟨hpasses, hkept, by simp [hpos], fun h => by rwa [hpos], fun _ => rfl, heod⟩

theorem Refills.count_le (h : Refills b s t) : t.count.toNat ≤ s.count.toNat + b.length := by
  obtain ⟨_, popped, -, hmoves⟩ := h.passes
  have hcount := hmoves.count
  omega

/-- One more piece of REFILL before it ends. -/
theorem Refills.filled (h : Refills b s t) (k : Filled b' t u) : Filled (b ++ b') s u := by
  have hcount := h.count_le
  have hcfg := h.passes.cfg
  unfold Filled at k ⊢
  rw [hcfg] at k
  rw [List.length_append]
  exact k.imp_left fun hlevel => by omega

theorem Refills.expectedOffset (h : Refills b s t) :
    expectedOffset t = expectedOffset s + b.length := by
  have hstart : t.dataStart = s.dataStart := h.kept.field State.dataStart fun _ => rfl
  have hpos := h.pos
  simp only [Machine.expectedOffset, hstart]
  omega

/-- Reads one after another deliver one piece of the file. -/
theorem Refills.fromFile (h : Refills b s t) (hb : FromFile b s) (hb' : FromFile b' t) :
    FromFile (b ++ b') s := by
  unfold FromFile at *
  rw [h.kept.openBytes, h.expectedOffset] at hb'
  rw [List.length_append, slice, List.take_add, List.drop_drop]
  exact congrArg₂ (· ++ ·) hb hb'

end

/-! ### Rounds and the file -/

/-- A read delivers the bytes at the cursor, however many, and moves past them (R82). -/
theorem At.readSome {file : List Byte} {p : Nat} {s : State} (h : At file p s) (hfile : file.length ≤ 2 ^ 32 - 1)
    (n : Nat) : ((Code.read n).run s).1 = slice file p ((Code.read n).run s).1.length ∧
      At file (p + ((Code.read n).run s).1.length) ((Code.read n).run s).2 := by
  have hgap := h.gap
  have hp : p < 2 ^ 32 := by
    have hlt := s.cur.isLt
    rwa [h.cur] at hlt
  obtain ⟨k, -, hbytes, hcur⟩ := stRead_bytes n (Machine.gap s)
  have hread : ((Code.read n).run s).1 = (stRead n (Machine.gap s)).1 := rfl
  rw [hgap.bytes, hgap.cur] at hbytes
  rw [hread]
  have hlength : (stRead n (Machine.gap s)).1.length = min k (file.length - p) := by
    rw [hbytes, List.length_take, List.length_drop]
  refine ⟨?_, ?_, ?_⟩
  · rw [slice, hlength, hbytes]
    exact List.take_eq_take_iff.mpr (by simp)
  · refine (openBytes_congr ?_ ?_).trans h.bytes <;> simp
  · have hmoved : (stRead n (Machine.gap s)).2.cur.toNat = p + (stRead n (Machine.gap s)).1.length := by
      rw [hcur, hgap.cur]
      exact Nat.mod_eq_of_lt (by omega)
    simpa using hmoved

/-- A round reads the file from the cursor on. -/
theorem At.round {file : List Byte} {p : Nat} {s : State} (h : At file p s) (hfile : file.length ≤ 2 ^ 32 - 1) :
    roundBytes s = slice file p (roundBytes s).length ∧
      At file (p + (roundBytes s).length) (roundEnd s) := by
  have hsized : At file p (roundSized s) := ((h.segment _).segment _).segment _
  obtain ⟨hbytes, hread⟩ := hsized.readSome hfile (roundSize s)
  refine ⟨hbytes, hread.congr ?_ ?_ ?_⟩ <;>
    by_cases hshort : (roundBytes s).length < roundSize s <;>
    simp [roundEnd, hshort, roundAdvanced, roundPushed, roundRead]

theorem refills_round {s : State} (h : refillWanted (roundCount s) s = true) :
    Refills (roundBytes s) s (roundEnd s) := by
  obtain ⟨hcount, hdata, heod⟩ := refillWanted_iff.mp h
  obtain ⟨-, -, -, hle⟩ := roundSize_mem h
  have hlength := length_roundBytes_le s
  have hpos := dataPos_roundEnd h
  refine ⟨passes_round h, round_kept s, hpos, fun _ => by omega, ?_, ?_⟩
  · rintro (hle | htrue)
    · omega
    · rw [heod] at htrue
      cases htrue
  · intro htrue
    rw [heod] at htrue
    cases htrue

theorem refills_roundAsked (s : State) : Refills [] s (roundAsked s) :=
  .of_passes ((passes_segment _ _).then (passes_segment _ _))
    (by simp [RefillKept, State.sansRefill, roundAsked, roundCounted]) (by simp [roundAsked, roundCounted])
    (by simp [roundAsked, roundCounted])

theorem filled_roundAsked {s : State} (h : refillWanted (roundCount s) s = false) :
    Filled [] s (roundAsked s) := by
  have hcount : roundCount s ≤ s.count.toNat := (passes_gap s).count_le
  have hnot : ¬ (roundCount s < s.cfg.bufCap - s.cfg.margin ∧ s.dataPos.toNat < s.dataSize.toNat ∧
      s.eod = false) := fun hwanted => by
    rw [refillWanted_iff.mpr hwanted] at h
    cases h
  have hsize : (roundAsked s).dataSize = s.dataSize := by simp [roundAsked, roundCounted]
  have hpos : (roundAsked s).dataPos = s.dataPos := by simp [roundAsked, roundCounted]
  have heod : (roundAsked s).eod = s.eod := by simp [roundAsked, roundCounted]
  rw [Filled, hsize, hpos, heod, List.length_nil]
  by_cases hlevel : roundCount s < s.cfg.bufCap - s.cfg.margin
  · by_cases hdata : s.dataPos.toNat < s.dataSize.toNat
    · exact .inr (.inr (Bool.not_eq_false _ ▸ fun hs => hnot ⟨hlevel, hdata, hs⟩))
    · exact .inr (.inl (Nat.le_of_not_lt hdata))
  · exact .inl (by omega)

/-- The aligned cursor stays aligned through the loop, which reads the file from there on. -/
def ReadsOn (bytes : List Byte) (s t : State) : Prop :=
  (openBytes s).length ≤ 2 ^ 32 - 1 → Aligned s → FromFile bytes s ∧ Aligned t

theorem ReadsOn.trans {b b' : List Byte} {s t u : State} (hr : Refills b s t) (h : ReadsOn b s t)
    (k : ReadsOn b' t u) : ReadsOn (b ++ b') s u := fun hlen hs => by
  obtain ⟨hb, ht⟩ := h hlen hs
  obtain ⟨hb', hu⟩ := k (by rwa [hr.kept.openBytes]) ht
  exact ⟨hr.fromFile hb hb', hu⟩

theorem readsOn_round {s : State} (h : refillWanted (roundCount s) s = true) :
    ReadsOn (roundBytes s) s (roundEnd s) := fun hlen hs => by
  obtain ⟨hbytes, hat⟩ := At.round ⟨rfl, hs⟩ hlen
  exact ⟨hbytes, hat.cur.trans (refills_round h).expectedOffset.symm⟩

theorem fromFile_nil (s : State) : FromFile [] s := by simp [FromFile, slice]

/-- The loop of REFILL with enough rounds (R246, R347). -/
theorem refillLoop_refills (fuel : Nat) (s : State) :
    ∃ bytes, Refills bytes s ((refillLoop fuel).run s).2 ∧ ReadsOn bytes s ((refillLoop fuel).run s).2 ∧
      (s.dataSize.toNat - s.dataPos.toNat < fuel → Filled bytes s ((refillLoop fuel).run s).2) := by
  induction fuel generalizing s with
  | zero =>
    exact ⟨[], .of_passes (.refl s) rfl rfl id, fun _ hs => ⟨fromFile_nil s, hs⟩, fun h => by omega⟩
  | succ fuel ih =>
    cases h : refillWanted (roundCount s) s with
    | false =>
      rw [refillLoop_run_of_enough h]
      have hasked := refills_roundAsked s
      refine ⟨[], hasked, fun _ hs => ⟨fromFile_nil s, ?_⟩, fun _ => filled_roundAsked h⟩
      have hcur : (roundAsked s).cur = s.cur := by simp [roundAsked, roundCounted]
      rw [Aligned, hasked.expectedOffset, hcur]
      exact hs
    | true =>
      have hround := refills_round h
      have hreads := readsOn_round h
      rw [refillLoop_run_of_wanted h]
      by_cases hshort : (roundBytes s).length < roundSize s
      · rw [if_pos hshort]
        refine ⟨roundBytes s, hround, hreads, fun _ => .inr (.inr ?_)⟩
        rw [eod_roundEnd h]
        simpa using hshort
      · rw [if_neg hshort]
        obtain ⟨rest, hrest, hrestReads, hfilled⟩ := ih (roundEnd s)
        refine ⟨_, hround.trans hrest, hreads.trans hround hrestReads, fun hfuel => hround.filled (hfilled ?_)⟩
        obtain ⟨hpos, -, -, hdata⟩ := roundSize_mem h
        have hmoved := dataPos_roundEnd h
        have hsize := congrArg BitVec.toNat hround.dataSize
        omega

/-! ### REFILL -/

/-- REFILL at the test of its offset (R246). -/
def refillAsked (s : State) : State :=
  ((Code.number expectedOffset).run ((Code.ask fun s => !s.streamActive).run s).2).2

/-- REFILL after its test of the offset (R246). -/
def refillTested (s : State) : State :=
  ((Code.when (fun _ => Config.offsetMax < expectedOffset s) latchEndOfData).run (refillAsked s)).2

/-- REFILL at its loop (R246, R248). -/
def refillSought (s : State) : State :=
  ((Code.when (fun u => stTell u ≠ expectedOffset s) (stSeek (expectedOffset s))).run (refillTested s)).2

/-- REFILL does nothing, or finds the offset beyond the file's range, or seeks and loops (R246). -/
theorem refill_run (s : State) :
    (s.streamActive = false ∧ refill.run s = ((), ((Code.ask fun s => !s.streamActive).run s).2)) ∨
    s.streamActive = true ∧
      ((Config.offsetMax < expectedOffset s ∧ refill.run s = ((), refillTested s)) ∨
        (expectedOffset s ≤ Config.offsetMax ∧
          refill.run s = (refillLoop refillBound).run (refillSought s))) := by
  cases hactive : s.streamActive with
  | false =>
    refine .inl ⟨rfl, ?_⟩
    rw [refill, run_ask_bind (b := true) (by simp [hactive]), if_pos rfl, Code.run_ret]
  | true =>
    refine .inr ⟨rfl, ?_⟩
    have hoffset : ((Code.number expectedOffset).run ((Code.ask fun s => !s.streamActive).run s).2).1 =
        expectedOffset s := by simp [expectedOffset]
    rw [refill, run_ask_bind (b := false) (by simp [hactive]), if_neg (by decide), Code.run_bind, hoffset,
      Code.run_bind]
    by_cases hbeyond : Config.offsetMax < expectedOffset s
    · refine .inl ⟨hbeyond, ?_⟩
      have htest : ((Code.when (fun _ => decide (Config.offsetMax < expectedOffset s)) latchEndOfData).run
          (refillAsked s)).1 = true := decide_eq_true hbeyond
      rw [← refillAsked, htest, if_pos rfl, Code.run_ret]
      rfl
    · refine .inr ⟨Nat.le_of_not_lt hbeyond, ?_⟩
      have htest : ((Code.when (fun _ => decide (Config.offsetMax < expectedOffset s)) latchEndOfData).run
          (refillAsked s)).1 = false := decide_eq_false hbeyond
      rw [← refillAsked, htest, if_neg (by decide), Code.run_andThen]
      rfl

theorem refills_refillAsked (s : State) : Refills [] s (refillAsked s) :=
  .of_passes ((passes_segment _ _).then (passes_segment _ _)) (by simp [RefillKept, State.sansRefill, refillAsked])
    (by simp [refillAsked]) (by simp [refillAsked])

theorem refills_refillTested (s : State) : Refills [] s (refillTested s) := by
  have htested : Refills [] (refillAsked s) (refillTested s) := by
    refine .of_passes (passes_when passes_latchEndOfData _) ?_ ?_ ?_ <;>
      by_cases h : Config.offsetMax < expectedOffset s <;> simp [RefillKept, State.sansRefill, refillTested, h]
  exact (refills_refillAsked s).trans htested

theorem refills_refillSought (s : State) : Refills [] s (refillSought s) := by
  have hsought : Refills [] (refillTested s) (refillSought s) := by
    refine .of_passes (passes_when (passes_stSeek _) _) ?_ ?_ ?_ <;>
      by_cases h : stTell (gap (refillTested s)) = expectedOffset s <;>
      simp [RefillKept, State.sansRefill, refillSought, h]
  exact (refills_refillTested s).trans hsought

/-- The seek aligns the cursor (R248). -/
theorem aligned_refillSought {s : State} (h : expectedOffset s ≤ Config.offsetMax) :
    Aligned (refillSought s) := by
  have hoffset : expectedOffset (refillSought s) = expectedOffset s := (refills_refillSought s).expectedOffset
  have hlt : expectedOffset s < 2 ^ 32 := Nat.lt_of_le_of_lt h (by decide)
  rw [Aligned, hoffset]
  by_cases hcur : stTell (gap (refillTested s)) = expectedOffset s
  · have hkept : (refillSought s).cur = (gap (refillTested s)).cur := by simp [refillSought, hcur]
    rw [hkept]
    exact hcur
  · have hmoved : (refillSought s).cur = BitVec.ofNat 32 (expectedOffset s) := by simp [refillSought, hcur]
    rw [hmoved]
    exact Nat.mod_eq_of_lt hlt

/-- What REFILL does (R246, R347). -/
theorem refill_refills (s : State) :
    ∃ bytes, Refills bytes s (refill.run s).2 ∧
      ((openBytes s).length ≤ 2 ^ 32 - 1 → FromFile bytes s) ∧
      (s.streamActive = true → Filled bytes s (refill.run s).2) ∧
      (s.streamActive = true → Config.offsetMax < expectedOffset s → (refill.run s).2.eod = true) := by
  obtain ⟨hactive, hrun⟩ | ⟨hactive, ⟨hbeyond, hrun⟩ | ⟨hwithin, hrun⟩⟩ := refill_run s
  · rw [hrun]
    refine ⟨[], .of_passes (passes_segment _ _) (refillKept_segment _ _) (by simp) (by simp),
      fun _ => fromFile_nil s, fun h => ?_, fun h => ?_⟩ <;> exact absurd (hactive.symm.trans h) (by decide)
  · have heod : (refillTested s).eod = true := by simp [refillTested, hbeyond]
    rw [hrun]
    exact ⟨[], refills_refillTested s, fun _ => fromFile_nil s, fun _ => .inr (.inr heod), fun _ _ => heod⟩
  · have hsought := refills_refillSought s
    obtain ⟨bytes, hrefills, hreads, hfilled⟩ := refillLoop_refills refillBound (refillSought s)
    have hlt := (refillSought s).dataSize.isLt
    rw [hrun]
    refine ⟨bytes, hsought.trans hrefills, fun hlen => ?_, fun _ => hsought.filled (hfilled ?_), fun _ h => ?_⟩
    · obtain ⟨hfile, -⟩ := hreads (by rwa [hsought.kept.openBytes]) (aligned_refillSought hwithin)
      exact hsought.fromFile (fromFile_nil s) hfile
    · rw [refillBound]
      omega
    · omega

/-- With the interrupt off no byte is popped. -/
theorem Refills.count_of_off {b : List Byte} {s t : State} (h : Refills b s t) (hie : s.ie = false) :
    t.count.toNat = s.count.toNat + b.length := by
  obtain ⟨_, popped, -, hmoves⟩ := h.passes
  obtain ⟨rfl, -, -⟩ := hmoves.calm (.inl hie)
  exact hmoves.count

/-- Settles O52: with the interrupt off the bytes pushed are still there at the end. -/
theorem refillReachesItsLevel : Obligations.RefillReachesItsLevel := by
  intro s hie hactive
  obtain ⟨bytes, hrefills, -, hfilled, -⟩ := refill_refills s
  rw [hrefills.count_of_off hie]
  exact hfilled hactive

/-! ### REFILL of a filled ring -/

/-- What a REFILL leaves that reads nothing (R239). -/
structure RefillStill (s t : State) : Prop where
  rb : t.rb = s.rb
  wr : t.wr = s.wr
  count : t.count = s.count
  dataPos : t.dataPos = s.dataPos
  eod : t.eod = s.eod

theorem RefillStill.trans {s t u : State} (h : RefillStill s t) (k : RefillStill t u) : RefillStill s u :=
  ⟨k.rb.trans h.rb, k.wr.trans h.wr, k.count.trans h.count, k.dataPos.trans h.dataPos, k.eod.trans h.eod⟩

/-- With the interrupt off time does not move the ring. -/
theorem refillStill_segment (a : Answer) {s : State} (hie : s.ie = false) :
    RefillStill s (advanceSeq a (gap s)) :=
  ⟨by simp, by simp, by simpa using (gap_noTick s hie).2.1, by simp, by simp⟩

theorem refillStill_refillAsked {s : State} (hie : s.ie = false) : RefillStill s (refillAsked s) :=
  (refillStill_segment _ hie).trans (refillStill_segment _ (by simpa using hie))

theorem refillStill_refillTested {s : State} (hie : s.ie = false)
    (heod : Config.offsetMax < expectedOffset s → s.eod = true) : RefillStill s (refillTested s) := by
  have hasked := refillStill_refillAsked hie
  have hie' : (refillAsked s).ie = false := by simpa [refillAsked] using hie
  have hcount : (gap (refillAsked s)).count = (refillAsked s).count := (gap_noTick _ hie').2.1
  refine hasked.trans ?_
  by_cases h : Config.offsetMax < expectedOffset s
  · have hlatched : (refillAsked s).eod = true := hasked.eod.trans (heod h)
    constructor <;> simp [refillTested, h, hcount, hlatched]
  · constructor <;> simp [refillTested, h, hcount]

theorem refillStill_refillSought {s : State} (hie : s.ie = false) : RefillStill (refillTested s) (refillSought s) := by
  have hie' : (refillTested s).ie = false := by
    rw [(refills_refillTested s).passes.ie, hie]
  have hcount : (gap (refillTested s)).count = (refillTested s).count := (gap_noTick _ hie').2.1
  by_cases h : stTell (gap (refillTested s)) = expectedOffset s <;>
    constructor <;> simp [refillSought, h, hcount]

/-- The loop's test, with the interrupt off, sees the occupancy that it was given. -/
theorem refillLoop_run_of_filled {s : State} (hie : s.ie = false)
    (h : refillWanted s.count.toNat s = false) (fuel : Nat) :
    RefillStill s ((refillLoop (fuel + 1)).run s).2 := by
  have hcount : roundCount s = s.count.toNat := congrArg BitVec.toNat (gap_noTick s hie).2.1
  rw [refillLoop_run_of_enough (by rw [hcount]; exact h)]
  exact (refillStill_segment _ hie).trans (refillStill_segment _ (by simpa using hie))

/-- A REFILL that finds the ring filled reads nothing (R239). -/
theorem refill_of_filled {s : State} (hie : s.ie = false) (h : refillWanted s.count.toNat s = false)
    (heod : Config.offsetMax < expectedOffset s → s.eod = true) : RefillStill s (refill.run s).2 := by
  obtain ⟨-, hrun⟩ | ⟨-, ⟨-, hrun⟩ | ⟨-, hrun⟩⟩ := refill_run s
  · rw [hrun]
    exact refillStill_segment _ hie
  · rw [hrun]
    exact refillStill_refillTested hie heod
  · have hsought := (refillStill_refillTested hie heod).trans (refillStill_refillSought hie)
    have hrefills := refills_refillSought s
    have hwanted : refillWanted (refillSought s).count.toNat (refillSought s) = false := by
      rw [hsought.count, refillWanted_congr hrefills.kept hsought.dataPos hsought.eod]
      exact h
    rw [hrun]
    exact hsought.trans (refillLoop_run_of_filled (hrefills.passes.ie.trans hie) hwanted _)

/-- Bytes of a file of legal length end within the range of offsets. -/
theorem offset_le_of_fromFile {b : List Byte} {s : State} (h : FromFile b s)
    (hlen : (openBytes s).length ≤ 2 ^ 32 - 1) (hs : expectedOffset s ≤ Config.offsetMax) :
    expectedOffset s + b.length ≤ Config.offsetMax := by
  have hlength := congrArg List.length h
  rw [slice, List.length_take, List.length_drop] at hlength
  simp only [Config.offsetMax] at hs ⊢
  omega

/-- Settles O53: the first REFILL leaves nothing wanted, and no offset beyond the range without `eod`. -/
theorem secondRefillAddsNothing : Obligations.SecondRefillAddsNothing := by
  intro s hie hactive hlen
  obtain ⟨bytes, hrefills, hfile, hfilled, hbeyond⟩ := refill_refills s
  have hcount := hrefills.count_of_off hie
  have hcfg := hrefills.passes.cfg
  generalize (refill.run s).2 = t at *
  have hwanted : refillWanted t.count.toNat t = false := by
    rw [← Bool.not_eq_true, refillWanted_iff, hcfg, hcount]
    rintro ⟨hlevel, hdata, heod⟩
    obtain h | h | h := hfilled hactive
    · omega
    · omega
    · rw [heod] at h
      cases h
  have heod : Config.offsetMax < expectedOffset t → t.eod = true := fun h => by
    by_cases hs : expectedOffset s ≤ Config.offsetMax
    · have hle := offset_le_of_fromFile (hfile hlen) hlen hs
      rw [hrefills.expectedOffset] at h
      omega
    · exact hbeyond hactive (Nat.lt_of_not_le hs)
  have hstill := refill_of_filled (hrefills.passes.ie.trans hie) hwanted heod
  exact ⟨hstill.rb, hstill.wr, hstill.count, hstill.dataPos, hstill.eod⟩

end Machine

end Sys2Proof
end

section
/-! UPDATE away from the end of the stream (R244 to R249, R253). -/

namespace Sys2Proof

namespace Machine

open Host

/-! ### REFILL's writes in order -/

/-- `t` is reached from `s` by writes of REFILL and the sample clock, but for the command port. -/
def FollowsRefill (s t : State) : Prop := ∃ writes, (∀ w ∈ writes, RefillWrite w) ∧ Follows writes s t

section

variable {s t : State}

theorem FollowsRefill.write (h : FollowsRefill s t) {f : State → State} {w : State → State} (hw : RefillWrite w)
    (hf : ∀ u p, t = u.withPortOf p → ∃ q, f t = (w u).withPortOf q) : FollowsRefill s (f t) := by
  obtain ⟨writes, hwrites, hfollows⟩ := h
  refine ⟨writes ++ [w], fun x hx => ?_, hfollows.write w hf⟩
  obtain hx | hx := List.mem_append.mp hx
  · exact hwrites x hx
  · exact List.mem_singleton.mp hx ▸ hw

theorem FollowsRefill.gap (h : FollowsRefill s t) : FollowsRefill s (gap t) :=
  let ⟨writes, hwrites, hfollows⟩ := h
  ⟨writes, hwrites, hfollows.gap⟩

theorem FollowsRefill.hold (h : FollowsRefill s t) : FollowsRefill s (hold t) :=
  let ⟨writes, hwrites, hfollows⟩ := h
  ⟨writes, hwrites, hfollows.hold⟩

theorem FollowsRefill.advanceSeq (h : FollowsRefill s t) (a : Answer) : FollowsRefill s (advanceSeq a t) :=
  let ⟨writes, hwrites, hfollows⟩ := h
  ⟨writes, hwrites, hfollows.advanceSeq a⟩

theorem push_withPortOf (v : Byte) (s p : State) :
    push v (s.withPortOf p) = ((push v s).1, (push v s).2.withPortOf p) := by
  by_cases hroom : s.count.toNat < s.cfg.bufCap
  · by_cases hslot : s.wr.toNat < s.cfg.bufCap <;>
      simp [push, ringWrite, State.withPortOf, hroom, hslot]
  · simp [push, State.withPortOf, hroom]

theorem pushAll_withPortOf (bytes : List Byte) (s p : State) :
    pushAll bytes (s.withPortOf p) = (pushAll bytes s).withPortOf p := by
  induction bytes generalizing s with
  | nil => rfl
  | cons b rest ih => rw [pushAll, push_withPortOf, ih, pushAll]

theorem FollowsRefill.stRead (h : FollowsRefill s t) (n : Nat) : FollowsRefill s (stRead n t).2 := by
  refine h.write (f := fun x => (Machine.stRead n x).2)
    (.moved (Machine.stRead n t).2.cur (Machine.stRead n t).2.readScript) fun u p ht => ?_
  refine ⟨(Machine.stRead n t).2, ?_⟩
  subst ht
  simp only [Machine.stRead, drawReadCount, State.withPortOf]
  cases u.readScript <;> rfl

end

/-- Each segment of REFILL is one of its writes, or none (R246). -/
theorem refillSteps_follows (s : State) : RefillSteps fun t u => FollowsRefill s t → FollowsRefill s u where
  refl _ h := h
  read n _ h := h.stRead n
  seek pos t h := h.write (f := stSeek pos) (.moved (BitVec.ofNat 32 pos) t.readScript) fun u p ht =>
    ⟨p, by rw [ht]; rfl⟩
  push b _ h := (h.hold.write (f := pushAll b) (.pushed b) fun u p ht =>
    ⟨p, by rw [ht, pushAll_withPortOf]⟩).hold
  advance k _ h := h.write (f := advancePos k) (.advanced k) fun u p ht => ⟨p, by rw [ht]; rfl⟩
  latch _ h := h.write (f := latchEndOfData) .latched fun u p ht => ⟨p, by rw [ht]; rfl⟩

theorem refill_follows {s t : State} (h : FollowsRefill s t) : FollowsRefill s (refill.run t).2 :=
  (refillSteps_follows s).refill.run (fun _ h => h) (fun h k x => k (h x)) (fun _ h => h.gap)
    (fun a _ h => h.advanceSeq a) t h

/-! ### The frame -/

/-- What the blanks of `sansRefill` leave is as it was. -/
theorem RefillKept.eq {s t : State} (h : RefillKept s t) :
    t = ({ s with
      seq := t.seq, rb := t.rb, wr := t.wr, dataPos := t.dataPos, eod := t.eod, cur := t.cur,
      readScript := t.readScript } : State).withClockOf t := by
  cases s
  cases t
  simp only [RefillKept, State.sansRefill, State.mk.injEq] at h
  simp only [State.withClockOf, State.mk.injEq]
  simp [h]

/-! ### UPDATE's REFILL -/

/-- The state before the response of an UPDATE that refills. -/
def updateRefilled (s : State) : State := gap (refill.run (updateTested s)).2

theorem update_refill_run (s : State) :
    ((refill.andThen <| Code.finish .ok fun _ => 0).run (updateTested s)).2 =
      finish .ok 0 (updateRefilled s) := by
  rw [Code.run_andThen, Code.run_finish, advanceSeq_finish, updateRefilled]

/-- Away from the end of the stream, and where no TICK can lead there, UPDATE refills (R244, R250). -/
theorem updateCode_run_of_not_ended {s : State} (hplaying : s.pstate = .playing)
    (h : (s.dataPos.toNat < s.dataSize.toNat ∧ s.eod = false) ∨ (Calm 2 s ∧ s.count ≠ 0)) :
    (updateCode.run s).2 = finish .ok 0 (updateRefilled s) := by
  have hended : endOfStream (gap (updateAsked s)) = false := by
    obtain ⟨hdata, heod⟩ | ⟨hcalm, hcount⟩ := h
    · simp [endOfStream, updateAsked, heod, hdata]
    · obtain ⟨⟨-, hasked, -⟩, hcalm'⟩ := gap_of_calm hcalm
      have hcalmAsked : Calm 1 (updateAsked s) := hcalm'.congr rfl rfl rfl
      obtain ⟨⟨-, htested, -⟩, -⟩ := gap_of_calm hcalmAsked
      have hsame : (gap (updateAsked s)).count = s.count := htested.trans hasked
      simpa [endOfStream, hsame] using fun _ => hcount
  rw [updateCode_run_of_playing hplaying hended, if_neg (by decide), update_refill_run]

theorem refills_updateTested (s : State) : Refills [] s (updateTested s) :=
  .of_passes ((passes_segment _ _).then (passes_segment _ _))
    (by simp [RefillKept, State.sansRefill, updateTested, updateAsked]) (by simp [updateTested, updateAsked])
    (by simp [updateTested, updateAsked])

theorem refills_gap (s : State) : Refills [] s (gap s) :=
  .of_passes (passes_gap s) (by simp [RefillKept, State.sansRefill]) (by simp) (by simp)

/-- What UPDATE reads and pushes before its response. -/
theorem refills_updateRefilled (s : State) :
    ∃ bytes, Refills bytes s (updateRefilled s) ∧ (s.streamActive = true → Filled bytes s (updateRefilled s)) := by
  have htested := refills_updateTested s
  obtain ⟨bytes, hrefills, -, hfilled, -⟩ := refill_refills (updateTested s)
  have hactive : (updateTested s).streamActive = s.streamActive := by simp [updateTested, updateAsked]
  have hall := (htested.trans hrefills).trans (refills_gap (refill.run (updateTested s)).2)
  rw [List.nil_append, List.append_nil] at hall
  refine ⟨bytes, hall, fun hs => htested.filled ?_⟩
  have hend := hfilled (hactive.trans hs)
  simpa [Filled, updateRefilled] using hend

theorem follows_updateRefilled (s : State) : FollowsRefill s (updateRefilled s) :=
  (refill_follows ⟨[], fun _ h => absurd h List.not_mem_nil, updateTested_follows s⟩).gap

/-! ### What the accounts say -/

section

variable {b : List Byte} {s t : State}

theorem Refills.length_eq (h : Refills b s t) : t.dataPos.toNat - s.dataPos.toNat = b.length := by
  rw [h.pos, Nat.add_sub_cancel_left]

theorem Refills.wr (h : Refills b s t) (hwr : s.wr.toNat < s.cfg.bufCap) :
    t.wr.toNat = slotAfter s.cfg s.wr b.length := by
  obtain ⟨_, _, -, hmoves⟩ := h.passes
  exact hmoves.wr hwr

theorem Refills.slots (h : Refills b s t) (hwr : s.wr.toNat < s.cfg.bufCap) {a : Nat}
    (ha : ∀ n, n < b.length → a ≠ slotAfter s.cfg s.wr n) : readByte t.rb a = readByte s.rb a := by
  obtain ⟨_, _, -, hmoves⟩ := h.passes
  exact hmoves.slots hwr a ha

/-- Without a TICK the output and the read side stay, and the bytes pushed are still there. -/
theorem Passes.calm (h : Passes b s t) (hs : s.ie = false ∨ (s.tf = false ∧ NoTimerStep s t)) :
    t.rd = s.rd ∧ t.duty = s.duty ∧ t.count.toNat = s.count.toNat + b.length := by
  obtain ⟨steps, popped, hruns, hmoves⟩ := h
  obtain ⟨rfl, hrd, hduty⟩ := hmoves.calm <| hs.imp_right fun ⟨htf, hquiet⟩ =>
    ⟨hruns.drawn.unique hquiet.2 hquiet.1, htf⟩
  exact ⟨hrd, hduty, hmoves.count⟩

/-- Without a timer step the timer stays. -/
theorem Passes.still (h : Passes b s t) (hquiet : NoTimerStep s t) :
    t.tcnt = s.tcnt ∧ t.reloadActive = s.reloadActive ∧ (s.ie = false ∨ s.tf = false → t.tf = s.tf) := by
  obtain ⟨steps, popped, hruns, hmoves⟩ := h
  obtain rfl : steps = 0 := hruns.drawn.unique hquiet.2 hquiet.1
  refine ⟨hruns.timer.tcnt, hruns.timer.active, ?_⟩
  rintro (hie | htf)
  · exact congrArg Timer.tf (hruns.off hie (hmoves.ie.trans hie))
  · exact (hmoves.tf rfl htf).trans htf.symm

/-- The bytes held at the end and those popped are those held before and those pushed. -/
theorem Passes.popped (h : Passes b s t) : ∃ popped, t.count.toNat + popped = s.count.toNat + b.length ∧
    (s.rd.toNat < s.cfg.bufCap → t.rd.toNat = slotAfter s.cfg s.rd popped) := by
  obtain ⟨_, popped, -, hmoves⟩ := h
  exact ⟨popped, hmoves.count, hmoves.rd⟩

end

/-- Settles O51: UPDATE's tests and its REFILL, round by round, and the accounts of the ring through them. -/
theorem updateRefillsTheRing : Obligations.UpdateRefillsTheRing := by
  intro s hplaying hdata hwr hcase
  have hrun := updateCode_run_of_not_ended hplaying hcase
  obtain ⟨bytes, hrefills, hfilled⟩ := refills_updateRefilled s
  obtain ⟨writes, hwrites, hfollows⟩ := follows_updateRefilled s
  have hactive : (updateRefilled s).streamActive = s.streamActive :=
    hrefills.kept.field State.streamActive fun _ => rfl
  generalize updateRefilled s = g at *
  have hlength := hrefills.length_eq
  have hexec : exec .update s = .next (finish .ok 0 g) := (exec_eq .update s).trans (congrArg _ hrun)
  have hwritesOnly : WritesOnly (writes ++ [fun u => u.responded 0 0]) s (finish .ok 0 g) := by
    obtain ⟨u, p, hu, rfl⟩ := hfollows
    exact ⟨u.responded 0 0, hu.write _, finish_withPortOf .ok 0 u p⟩
  refine ⟨finish .ok 0 g, hexec, ?frame, ?grows, hrefills.pos_le hdata, ?wr, ?slots, ?level, ?idle,
    ⟨writes, hwrites, hwritesOnly⟩, ?popped, ?calm, hrefills.passes.still⟩
  case frame =>
    conv_lhs => rw [hrefills.kept.eq]
    rfl
  case grows => exact (Nat.le_add_right _ _).trans_eq hrefills.pos.symm
  case wr => exact (hrefills.wr hwr).trans (congrArg _ hlength.symm)
  case slots => exact fun a ha => hrefills.slots hwr fun n hn => ha n (hn.trans_eq hlength.symm)
  case level =>
    intro hs
    have hlevel : s.cfg.bufCap - s.cfg.margin ≤ s.count.toNat + (g.dataPos.toNat - s.dataPos.toNat) ∨
        g.dataSize.toNat ≤ g.dataPos.toNat ∨ g.eod = true := hlength ▸ hfilled hs
    refine hlevel.imp_right (Or.imp_left fun hend => BitVec.eq_of_toNat_eq ?_)
    rw [hrefills.dataSize] at hend
    exact le_antisymm (hrefills.pos_le hdata) hend
  case idle =>
    intro hidle
    obtain rfl := hrefills.idle (hidle.imp_left fun heq => (congrArg BitVec.toNat heq).ge)
    exact ⟨BitVec.eq_of_toNat_eq hrefills.pos,
      BitVec.eq_of_toNat_eq ((hrefills.wr hwr).trans (slotAfter_zero hwr))⟩
  case popped =>
    obtain ⟨popped, hcount, hrd⟩ := hrefills.passes.popped
    exact ⟨popped, hcount.trans (congrArg _ hlength.symm), hrd⟩
  case calm =>
    intro hcalm
    obtain ⟨hrd, hduty, hcount⟩ := hrefills.passes.calm hcalm
    exact ⟨hrd, hduty, hcount.trans (congrArg _ hlength.symm)⟩

end Machine

end Sys2Proof
end

section
/-! START, from the open to the enabled clock (R233 to R243). -/

namespace Sys2Proof

namespace Machine

open Host

/-! ### Before the commit -/

/-- Nothing of a stream has been written, and with the interrupt off nothing popped or driven. -/
structure Unstarted (s t : State) : Prop where
  kept : StreamKept s t
  cfg : t.cfg = s.cfg
  rateQ : t.rateQ = s.rateQ
  files : t.files = s.files
  nameReg : t.nameReg = s.nameReg
  pstate : t.pstate = s.pstate
  active : t.streamActive = s.streamActive
  off : s.ie = false → t.ie = false ∧ NoTick s t

/-- The sequencer, the open file and its cursor are no registers of a stream. -/
theorem Unstarted.of_device (s : State) (seq : Seq) (file : Option Name) (cur : Word) :
    Unstarted s { s with seq := seq, openFile := file, cur := cur } :=
  ⟨⟨rfl, rfl, rfl, rfl, rfl, rfl, rfl, rfl, rfl⟩, rfl, rfl, rfl, rfl, rfl, rfl, fun h => ⟨h, rfl, rfl, rfl⟩⟩

theorem Unstarted.refl (s : State) : Unstarted s s := .of_device s s.seq s.openFile s.cur

theorem StreamKept.trans {s t u : State} (h : StreamKept s t) (k : StreamKept t u) : StreamKept s u := by
  obtain ⟨h1, h2, h3, h4, h5, h6, h7, h8, h9⟩ := h
  obtain ⟨k1, k2, k3, k4, k5, k6, k7, k8, k9⟩ := k
  exact ⟨k1.trans h1, k2.trans h2, k3.trans h3, k4.trans h4, k5.trans h5, k6.trans h6, k7.trans h7, k8.trans h8,
    k9.trans h9⟩

theorem Unstarted.trans {s t u : State} (h : Unstarted s t) (k : Unstarted t u) : Unstarted s u where
  kept := h.kept.trans k.kept
  cfg := k.cfg.trans h.cfg
  rateQ := k.rateQ.trans h.rateQ
  files := k.files.trans h.files
  nameReg := k.nameReg.trans h.nameReg
  pstate := k.pstate.trans h.pstate
  active := k.active.trans h.active
  off hs := by
    obtain ⟨ht, hrd, hcount, hduty⟩ := h.off hs
    obtain ⟨hu, krd, kcount, kduty⟩ := k.off ht
    exact ⟨hu, krd.trans hrd, kcount.trans hcount, kduty.trans hduty⟩

theorem unstarted_gap (s : State) : Unstarted s (gap s) :=
  ⟨by simp [StreamKept], by simp, by simp, by simp, by simp, by simp, by simp,
    fun h => ⟨by simpa using h, gap_noTick s h⟩⟩

theorem unstarted_advanceSeq (a : Answer) (s : State) : Unstarted s (advanceSeq a s) := .of_device s _ _ _

theorem unstarted_stRead (n : Nat) (s : State) : Unstarted s (stRead n s).2 :=
  ⟨by simp [StreamKept], by simp, by simp, by simp, by simp, by simp, by simp, fun h => by simp [h, NoTick]⟩

theorem unstarted_stOpen (name : Name) (s : State) : Unstarted s (stOpen name s).2 :=
  ⟨by simp [StreamKept], by simp, by simp, by simp, by simp, by simp, by simp, fun h => by simp [h, NoTick]⟩

theorem unstarted_stSeek (pos : Nat) (s : State) : Unstarted s (stSeek pos s) := .of_device s _ _ _

theorem unstarted_stClose (s : State) : Unstarted s (stClose s) := .of_device s _ _ _

theorem Unstarted.run {α : Type} {c : Code α} (h : c.Steps Unstarted) (s : State) : Unstarted s (c.run s).2 :=
  h.run .refl Unstarted.trans unstarted_gap unstarted_advanceSeq s

theorem parseSteps_unstarted : ParseSteps Unstarted := ⟨.refl, unstarted_stRead, unstarted_stSeek⟩

/-- The open file stays. -/
def KeepsFile (s t : State) : Prop := t.openFile = s.openFile

theorem KeepsFile.run {α : Type} {c : Code α} (h : c.Steps KeepsFile) (s : State) :
    (c.run s).2.openFile = s.openFile :=
  h.run (R := KeepsFile) (fun _ => rfl) (fun h k => Eq.trans k h) (by simp [KeepsFile]) (by simp [KeepsFile]) s

section

variable (name : State → Name) (s : State)

theorem unstarted_opened : Unstarted s (opened name s) := Unstarted.run (.openFile unstarted_stOpen) s

theorem unstarted_parsed : Unstarted s (parsed name s) :=
  (unstarted_opened name s).trans (Unstarted.run parseSteps_unstarted.parse _)

theorem openFile_parsed : (parsed name s).openFile = (opened name s).openFile :=
  KeepsFile.run (ParseSteps.parse (by constructor <;> simp [KeepsFile])) _

theorem unstarted_rejected : Unstarted s (rejected name s) :=
  ((unstarted_parsed name s).trans (Unstarted.run (.ask .refl _) _)).trans
    (Unstarted.run (.write unstarted_stClose) _)

/-- A failed open leaves no file open where none was (R81, R237). -/
theorem openFile_opened_of_fail (h : ((Code.openFile name).run s).1 = false) :
    (opened name s).openFile = s.openFile := by
  obtain ⟨-, hopen⟩ | ⟨-, ⟨-, hopen⟩ | ⟨-, hopen⟩⟩ := stOpen_cases (name (gap s)) (gap s)
  · simp [opened, hopen]
  · simp [opened, hopen]
  · rw [Code.run_openFile, hopen] at h
    cases h

theorem openFile_opened_of_ok (h : ((Code.openFile name).run s).1 = true) :
    (opened name s).openFile = some (name (gap s)) := by
  obtain ⟨-, hopen⟩ | ⟨-, ⟨-, hopen⟩ | ⟨-, hopen⟩⟩ := stOpen_cases (name (gap s)) (gap s)
  · rw [Code.run_openFile, hopen] at h
    cases h
  · rw [Code.run_openFile, hopen] at h
    cases h
  · simp [opened, hopen]

end

/-- What writes nothing of a stream and opens no file leaves a stopped stream stopped. -/
theorem StreamStopped.unstarted {s t : State} (hs : StreamStopped s) (h : Unstarted s t)
    (hfile : t.openFile = none) : StreamStopped t := by
  obtain ⟨hstopped, hie, hactive, -, hduty⟩ := hs
  obtain ⟨htie, -, -, htduty⟩ := h.off hie
  exact ⟨h.pstate.trans hstopped, htie, h.active.trans hactive, hfile, htduty.trans hduty⟩

theorem StreamStopped.muted {s : State} (h : StreamStopped s) : Muted s :=
  let ⟨_, hie, _, _, hduty⟩ := h
  ⟨hie, hduty⟩

/-! ### Priming and the clock -/

/-- The state after priming (R239). -/
def primed (s : State) : State := ((refillTimes Config.primeCycles).run s).2

/-- The state after the clock's registers are set (R241). -/
def clocked (s : State) : State := (applyRate.run ((Code.write writeBaseReload).run (primed s)).2).2

/-- The state at the moment the clock is enabled (R241). -/
def enabled (s : State) : State := clearPendingAndEnable (hold (gap (clocked s)))

theorem primeAndEnable_run (s : State) :
    (primeAndEnable.run s).2 = advanceSeq .done (hold (enabled s)) := by
  rw [primeAndEnable, Code.run_andThen, Code.run_andThen, Code.run_andThen, Code.run_atomic, enabled, clocked,
    primed]

/-- Priming is one REFILL after another (R239). -/
theorem refillTimes_refills (n : Nat) (s : State) :
    ∃ bytes, Refills bytes s ((refillTimes n).run s).2 ∧
      ((openBytes s).length ≤ 2 ^ 32 - 1 → FromFile bytes s) := by
  induction n generalizing s with
  | zero => exact ⟨[], .of_passes (.refl s) rfl rfl id, fun _ => fromFile_nil s⟩
  | succ n ih =>
    obtain ⟨b, hb, hfile, -, -⟩ := refill_refills s
    obtain ⟨b', hb', hfile'⟩ := ih (refill.run s).2
    have hrun : ((refillTimes (n + 1)).run s).2 = ((refillTimes n).run (refill.run s).2).2 := by
      rw [refillTimes, Code.run_andThen]
    rw [hrun]
    refine ⟨b ++ b', hb.trans hb', fun hlen => hb.fromFile (hfile hlen) (hfile' ?_)⟩
    rwa [hb.kept.openBytes]

/-- What START has made of `s` when it enables the clock (R238 to R241): the ring was reset, `bytes` were
pushed, and with the interrupt off none was popped. -/
structure ClockSet (s x : State) : Prop where
  cfg : x.cfg = s.cfg
  pstate : x.pstate = .playing
  ie : x.ie = true
  tf : x.tf = false
  active : x.streamActive = true
  rd : x.rd = 0
  count : x.count.toNat = x.dataPos.toNat
  duty : x.duty = 127
  pos_le_size : x.dataPos.toNat ≤ x.dataSize.toNat
  pos_le_cap : x.dataPos.toNat ≤ s.cfg.bufCap
  wr : x.wr.toNat = x.dataPos.toNat % s.cfg.bufCap
  base : x.baseReload.toNat = basePeriod s.cfg x.sampleRate.toNat
  reload : x.reloadReg.toNat = reloadOfRate x.baseReload.toNat s.rateQ.toNat
  rb : ∀ a, x.dataPos.toNat ≤ a → readByte x.rb a = readByte s.rb a

/-- The ring just after the commit: empty, from slot 0 (R135, R238). -/
structure Fresh (s x : State) : Prop where
  cfg : x.cfg = s.cfg
  rateQ : x.rateQ = s.rateQ
  rb : x.rb = s.rb
  pstate : x.pstate = .playing
  ie : x.ie = false
  active : x.streamActive = true
  rd : x.rd = 0
  wr : x.wr = 0
  count : x.count = 0
  dataPos : x.dataPos = 0
  duty : x.duty = 127

theorem fresh_committed {name : State → Name} {s : State} (hs : Muted s) (start size rate : Word) :
    Fresh s (committed name start size rate s) := by
  have hparsed := unstarted_parsed name s
  obtain ⟨hie, hduty⟩ := hs
  obtain ⟨-, -, -, -, -, -, hrb, -, -⟩ := hparsed.kept
  obtain ⟨hoff, -, -, hkept⟩ := hparsed.off hie
  have hassigned : Muted (Code.assign.run ((Code.ask fun _ => false).run (parsed name s)).2).2 :=
    KeepsMuted.run (.assign fun _ => id) <| KeepsMuted.run (.ask (fun _ => id) _) ⟨hoff, hkept.trans hduty⟩
  have hmuted : Muted (committed name start size rate s) :=
    KeepsMuted.run (.atomic (by simp [KeepsMuted, Muted])) hassigned
  constructor
  case ie => exact hmuted.1
  case duty => exact hmuted.2
  all_goals simp [committed, hparsed.cfg, hparsed.rateQ, hrb]

/-- With the interrupt off nothing is popped or driven. -/
def OffKept (s t : State) : Prop := s.ie = false → t.ie = false ∧ NoTick s t

theorem OffKept.trans {s t u : State} (h : OffKept s t) (k : OffKept t u) : OffKept s u := fun hs => by
  obtain ⟨ht, hrd, hcount, hduty⟩ := h hs
  obtain ⟨hu, krd, kcount, kduty⟩ := k ht
  exact ⟨hu, krd.trans hrd, kcount.trans hcount, kduty.trans hduty⟩

theorem offKept_gap (s : State) : OffKept s (gap s) := fun h => ⟨by simpa using h, gap_noTick s h⟩

theorem OffKept.run {α : Type} {c : Code α} (h : c.Steps OffKept) (s : State) : OffKept s (c.run s).2 :=
  h.run (fun _ hs => ⟨hs, rfl, rfl, rfl⟩) OffKept.trans offKept_gap (fun _ _ hs => ⟨hs, rfl, rfl, rfl⟩) s

/-- Setting the clock's registers does not move the ring (R241). -/
theorem offKept_clocked (s : State) : OffKept (primed s) (clocked s) := by
  have hbase : OffKept (primed s) ((Code.write writeBaseReload).run (primed s)).2 :=
    OffKept.run (.write fun _ hs => ⟨hs, rfl, rfl, rfl⟩) _
  exact hbase.trans (OffKept.run (applyRate_steps (fun _ hs => ⟨hs, rfl, rfl, rfl⟩)
    (by simp +contextual [OffKept, NoTick])) _)

/-- What the clock's registers hold before the clock is enabled (R241). -/
theorem clocked_fields (s : State) :
    (clocked s).dataPos = (primed s).dataPos ∧ (clocked s).dataSize = (primed s).dataSize ∧
    (clocked s).sampleRate = (primed s).sampleRate ∧ (clocked s).pstate = (primed s).pstate ∧
    (clocked s).streamActive = (primed s).streamActive ∧ (clocked s).wr = (primed s).wr ∧
    (clocked s).rb = (primed s).rb ∧
    (clocked s).baseReload.toNat = basePeriod (primed s).cfg (primed s).sampleRate.toNat ∧
    (clocked s).reloadReg.toNat = reloadOfRate (clocked s).baseReload.toNat (primed s).rateQ.toNat := by
  refine ⟨by simp [clocked], by simp [clocked], by simp [clocked], by simp [clocked], by simp [clocked],
    by simp [clocked], by simp [clocked], ?_, ?_⟩
  · rw [← toNat_ofNat_basePeriod]
    simp [clocked]
  · rw [clocked, toNat_reloadReg_applyRate]
    simp

/-- Priming and the clock, from a fresh stream. -/
theorem clockSet_enabled {s x : State} (h : Fresh s x) : ClockSet s (enabled x) := by
  obtain ⟨bytes, hrefills, -⟩ := refillTimes_refills Config.primeCycles x
  have hprimed : Refills bytes x (primed x) := hrefills
  have hcount := hprimed.count_of_off h.ie
  obtain ⟨hrd, hduty, -⟩ := hprimed.passes.calm (.inl h.ie)
  obtain ⟨_, _, -, hmoves⟩ := hprimed.passes
  have hcap : (primed x).count.toNat ≤ x.cfg.bufCap := hmoves.count_le (by simp [h.count])
  have hwr : (primed x).wr.toNat = slotAfter x.cfg x.wr bytes.length :=
    hprimed.wr (by rw [h.wr]; exact x.cfg.bufCap_pos)
  have hpos := hprimed.pos
  have hle := hprimed.pos_le (by simp [h.dataPos])
  have hsize := hprimed.dataSize
  have hcfg : (primed x).cfg = x.cfg := hprimed.passes.cfg
  have hrateQ : (primed x).rateQ = x.rateQ := hprimed.kept.field State.rateQ fun _ => rfl
  have hpstate : (primed x).pstate = x.pstate := hprimed.kept.field State.pstate fun _ => rfl
  have hactive : (primed x).streamActive = x.streamActive := hprimed.kept.field State.streamActive fun _ => rfl
  have hie : (primed x).ie = false := hprimed.passes.ie.trans h.ie
  obtain ⟨cpos, csize, crate, cpstate, cactive, cwr, crb, cbase, creload⟩ := clocked_fields x
  obtain ⟨cie, crd, ccount, cduty⟩ := offKept_clocked x hie
  obtain ⟨grd, gcount, gduty⟩ := gap_noTick (clocked x) cie
  rw [h.count] at hcount
  rw [h.dataPos] at hpos
  have hlength : (primed x).dataPos.toNat = bytes.length := by simpa using hpos
  have hcountLength : (primed x).count.toNat = bytes.length := by simpa using hcount
  constructor
  case cfg => simp [enabled, clocked, hcfg, h.cfg]
  case pstate => simp [enabled, cpstate, hpstate, h.pstate]
  case ie => rfl
  case tf => rfl
  case active => simp [enabled, cactive, hactive, h.active]
  case rd => simp [enabled, grd, crd, hrd, h.rd]
  case count => simp [enabled, gcount, ccount, cpos, hcountLength, hlength]
  case duty => simp [enabled, gduty, cduty, hduty, h.duty]
  case pos_le_size => simpa [enabled, cpos, csize, hsize] using hle
  case pos_le_cap => simpa [enabled, cpos, hlength, hcountLength, h.cfg] using hcap
  case wr => simpa [enabled, cwr, cpos, hlength, h.cfg, h.wr, slotAfter] using hwr
  case base => simpa [enabled, crate, hcfg, h.cfg] using cbase
  case reload => simpa [enabled, hrateQ, h.rateQ] using creload
  case rb =>
    intro a ha
    have hread : bytes.length ≤ a := by simpa [enabled, cpos, hlength] using ha
    have hslots := hprimed.slots (a := a) (by rw [h.wr]; exact x.cfg.bufCap_pos) fun n hn => by
      have hslot : slotAfter x.cfg x.wr n = n := by
        rw [slotAfter, h.wr, BitVec.ofNat_eq_ofNat, BitVec.toNat_zero, Nat.zero_add]
        exact Nat.mod_eq_of_lt (by omega)
      omega
    simpa [enabled, crb, h.rb] using hslots

/-! ### The outcome of START -/

theorem openFile_enabled (x : State) : (enabled x).openFile = x.openFile := by
  have hsteps : RefillSteps KeepsFile := by
    constructor
    case toParseSteps => constructor <;> simp [KeepsFile]
    all_goals simp [KeepsFile]
  have hprimed : (primed x).openFile = x.openFile := KeepsFile.run (hsteps.refillTimes _) x
  simp [enabled, clocked, hprimed]

/-- The numbers of timer steps that were drawn are on record (log 5). -/
def DrawsOn (s t : State) : Prop := s.draws ≤ t.draws ∧ ∃ n, TimerStepsDrawn n s t

theorem DrawsOn.trans {s t u : State} (h : DrawsOn s t) (k : DrawsOn t u) : DrawsOn s u := by
  obtain ⟨hdraws, m, hm⟩ := h
  obtain ⟨kdraws, n, hn⟩ := k
  exact ⟨hdraws.trans kdraws, m + n, hm.trans hn hdraws kdraws⟩

theorem RunsReloaded.drawsOn {s t : State} (h : RunsReloaded s t) : DrawsOn s t := by
  obtain ⟨n, m, hdrawn, hdraws, -⟩ := h
  exact ⟨hdraws, n + m, hdrawn⟩

theorem Code.Steps.mono {α : Type} {R S : State → State → Prop} {c : Code α} (h : c.Steps R)
    (hRS : ∀ s t, R s t → S s t) : c.Steps S := by
  induction c with
  | ret a => trivial
  | seg effect next ih => exact ⟨fun s => hRS _ _ (h.1 s), fun a => ih a (h.2 a)⟩

theorem DrawsOn.run {α : Type} {c : Code α} (h : c.Steps RunsReloaded) (s : State) : DrawsOn s (c.run s).2 :=
  (h.mono fun _ _ => RunsReloaded.drawsOn).run (fun s => (RunsOn.refl s).reloaded.drawsOn) DrawsOn.trans
    (fun s => (runsOn_gap s).reloaded.drawsOn) (fun a s => (runsOn_advanceSeq a s).reloaded.drawsOn) s

theorem drawsOn_parsed (name : State → Name) (s : State) : DrawsOn s (parsed name s) := by
  have hopened : DrawsOn s (opened name s) := DrawsOn.run (.openFile commandSteps_reloaded.openFile) s
  exact hopened.trans (DrawsOn.run commandSteps_reloaded.parse _)

theorem drawsOn_committed (name : State → Name) (start size rate : Word) (s : State) :
    DrawsOn s (committed name start size rate s) := by
  have hrefl := commandSteps_reloaded.toStartSteps.refl
  have hasked : DrawsOn s ((Code.ask fun _ => false).run (parsed name s)).2 :=
    (drawsOn_parsed name s).trans (DrawsOn.run (.ask hrefl _) _)
  exact (hasked.trans (DrawsOn.run (.assign hrefl) _)).trans
    (DrawsOn.run (.atomic (commandSteps_reloaded.commit start size rate)) _)

theorem drawsOn_clocked (x : State) : DrawsOn x (clocked x) := by
  have hrefl := commandSteps_reloaded.toStartSteps.refl
  have hprimed : DrawsOn x (primed x) := DrawsOn.run (commandSteps_reloaded.refillTimes _) x
  have hbase : DrawsOn x ((Code.write writeBaseReload).run (primed x)).2 :=
    hprimed.trans (DrawsOn.run (.write commandSteps_reloaded.base) _)
  exact hbase.trans (DrawsOn.run (applyRate_steps hrefl commandSteps_reloaded.reload) _)

theorem drawsOn_clearPendingAndEnable (s : State) : DrawsOn s (clearPendingAndEnable s) := ⟨le_rfl, 0, .of_eq rfl⟩

theorem drawsOn_enabled (x : State) : DrawsOn x (enabled x) := by
  have htimed : DrawsOn (clocked x) (hold (gap (clocked x))) :=
    (runsOn_gap _).reloaded.drawsOn.trans (runsOn_hold _).reloaded.drawsOn
  exact ((drawsOn_clocked x).trans htimed).trans (drawsOn_clearPendingAndEnable _)

theorem startStream_failed {s t : State} (hs : StreamStopped s) (h : Unstarted s t)
    (hfile : t.openFile = none) : StreamStopped t ∧ StreamKept s t ∧ t.rd = s.rd ∧ t.count = s.count := by
  obtain ⟨-, hrd, hcount, -⟩ := h.off hs.2.1
  exact ⟨hs.unstarted h hfile, h.kept, hrd, hcount⟩

/-- START from a stopped stream fails and leaves it so, or enables the clock of a new one (R237, R240). -/
theorem startStream_outcome {name : State → Name} {s : State} (hs : StreamStopped s) :
    ((((startStream name).run s).1 = .openFail ∨ ((startStream name).run s).1 = .formatFail) ∧
      StreamStopped ((startStream name).run s).2 ∧ StreamKept s ((startStream name).run s).2 ∧
      ((startStream name).run s).2.rd = s.rd ∧ ((startStream name).run s).2.count = s.count) ∨
    (((startStream name).run s).1 = .ok ∧ ∃ x, ClockSet s x ∧ x.openFile = some (name (gap s)) ∧
      DrawsOn s x ∧ ((startStream name).run s).2 = advanceSeq .done (hold x)) := by
  obtain ⟨hopen, hrun⟩ | ⟨-, -, hrun⟩ | ⟨hopen, start, size, rate, -, hrun⟩ := startStream_cases name s
  · have hfile : (opened name s).openFile = none := (openFile_opened_of_fail name s hopen).trans hs.2.2.2.1
    have hfailed := startStream_failed hs (unstarted_opened name s) hfile
    simp only [hrun]
    exact .inl ⟨.inl trivial, hfailed⟩
  · have hfile : (rejected name s).openFile = none := by simp [rejected]
    have hfailed := startStream_failed hs (unstarted_rejected name s) hfile
    simp only [hrun]
    exact .inl ⟨.inr trivial, hfailed⟩
  · have hfresh := fresh_committed (name := name) hs.muted start size rate
    have hcommitted : (committed name start size rate s).openFile = some (name (gap s)) := by
      rw [← openFile_opened_of_ok name s hopen, ← openFile_parsed]
      simp [committed]
    have hrunEnd := primeAndEnable_run (committed name start size rate s)
    simp only [hrun]
    exact .inr ⟨trivial, _, clockSet_enabled hfresh, (openFile_enabled _).trans hcommitted,
      (drawsOn_committed name start size rate s).trans (drawsOn_enabled _), hrunEnd⟩

/-- The response that follows START's clock. -/
def startedEnd (st : Status) (v : Word) (x : State) : State := finish st v (gap (advanceSeq .done (hold x)))

/-- What a successful START leaves, up to what the sample clock does since (R240). -/
theorem ClockSet.streamStarted {s x : State} (h : ClockSet s x) (hfile : x.openFile = some x.nameReg)
    (st : Status) (v : Word) : StreamStarted s (startedEnd st v x) := by
  refine ⟨?_, ?_, ?_, ?_, ?_, ?_, ?_, ?_, ?_, ?_⟩
  · simpa [startedEnd] using h.pstate
  · simpa [startedEnd] using h.ie
  · simpa [startedEnd] using h.active
  · simpa [startedEnd] using hfile
  · simpa [startedEnd] using h.pos_le_size
  · simpa [startedEnd] using h.pos_le_cap
  · simpa [startedEnd] using h.wr
  · simpa [startedEnd] using h.base
  · simpa [startedEnd] using h.reload
  · simpa [startedEnd] using h.rb

/-- From the enabled clock on only the sample clock moves the ring. -/
theorem passes_startedEnd (st : Status) (v : Word) (x : State) : Passes [] x (startedEnd st v x) :=
  (((passes_hold x).then (passes_advanceSeq _ _)).then (passes_gap _)).then
    (.of_eq rfl le_rfl rfl rfl rfl rfl rfl rfl rfl rfl)

theorem StreamStopped.finish {s : State} (h : StreamStopped s) (st : Status) (v : Word) :
    StreamStopped (finish st v (gap s)) := by
  obtain ⟨hstopped, hie, hactive, hfile, hduty⟩ := h
  have hkept := (gap_noTick s hie).2.2
  exact ⟨by simpa using hstopped, by simpa using hie, by simpa using hactive, by simpa using hfile,
    hkept.trans hduty⟩

/-! ### The frame of START -/

/-- What the blanks of `sansStream` leave is as it was. -/
theorem eq_of_sansStream {s t : State} (h : t.sansStream = s.sansStream) :
    t = (({ s with seq := t.seq } : State).withStreamOf t).withClockOf t := by
  cases s
  cases t
  simp only [State.sansStream, State.mk.injEq] at h
  simp only [State.withClockOf, State.withStreamOf, State.mk.injEq]
  simp [h]

/-- The response after such a procedure. -/
theorem finish_eq_of_sansStream {s g : State} (h : g.sansStream = s.sansStream) (st : Status) (v : Word) :
    finish st v g = ((s.withStreamOf (finish st v g)).responded (statusCode st) v).withClockOf
      (finish st v g) := by
  conv_lhs => rw [eq_of_sansStream h]
  rfl

/-! ### PLAY -/

/-- The name is retained in `s`. -/
def retained (name : Name) (s : State) : State := { s with nameReg := name, nameValid := true }

theorem sansStream_playReady (name : Name) (s : State) :
    (playReady name s).sansStream = (retained name s).sansStream := by
  simp [State.sansStream, playReady, retained]

/-- TEARDOWN closes the file of a stream (R32, R234). -/
theorem streamStopped_teardown {s : State} (h : OpenOnlyIfActive s) : StreamStopped (teardown.run s).2 := by
  refine ⟨by simp, by simp, by simp, ?_, by simp⟩
  cases hactive : s.streamActive with
  | true => simp [hactive]
  | false =>
    have hclosed : s.openFile = none := by
      by_contra hopen
      have hset := h (Option.isSome_iff_ne_none.mpr hopen)
      rw [hactive] at hset
      cases hset
    simp [hactive, hclosed]

theorem muted_playReady (name : Name) (s : State) : Muted (playReady name s) := by
  have htorn : Muted (teardown.run s).2 := ⟨by simp, by simp [Config.silence]⟩
  exact KeepsMuted.run (.write (by simp [KeepsMuted, Muted])) <|
    KeepsMuted.run (.write (by simp [KeepsMuted, Muted])) htorn

theorem streamStopped_playReady {s : State} (h : OpenOnlyIfActive s) (name : Name) :
    StreamStopped (playReady name s) := by
  obtain ⟨-, -, -, hfile, -⟩ := streamStopped_teardown h
  obtain ⟨hie, hduty⟩ := muted_playReady name s
  refine ⟨by simp [playReady], hie, by simp [playReady], ?_, hduty⟩
  simpa [playReady] using hfile

/-- Where nothing can be popped nothing is, and so it stays. -/
def RingIdle (s t : State) : Prop :=
  (s.ie = false ∨ s.count = 0) → (t.ie = false ∨ t.count = 0) ∧ t.rd = s.rd ∧ t.count = s.count

theorem RingIdle.trans {s t u : State} (h : RingIdle s t) (k : RingIdle t u) : RingIdle s u := fun hs => by
  obtain ⟨ht, hrd, hcount⟩ := h hs
  obtain ⟨hu, krd, kcount⟩ := k ht
  exact ⟨hu, krd.trans hrd, kcount.trans hcount⟩

theorem ringIdle_gap (s : State) : RingIdle s (gap s) := fun hs => by
  obtain ⟨hrd, hcount⟩ := gap_ringKept hs
  exact ⟨hs.imp (fun hie => by simpa using hie) fun hzero => hcount.trans hzero, hrd, hcount⟩

theorem RingIdle.run {α : Type} {c : Code α} (h : c.Steps RingIdle) (s : State) : RingIdle s (c.run s).2 :=
  h.run (fun _ hs => ⟨hs, rfl, rfl⟩) RingIdle.trans ringIdle_gap (fun _ _ hs => ⟨hs, rfl, rfl⟩) s

theorem ringIdle_teardown (s : State) : RingIdle s (teardown.run s).2 :=
  RingIdle.run (teardown_steps (fun _ hs => ⟨hs, rfl, rfl⟩) (by simp [RingIdle]) (by simp [RingIdle])
    (by simp [RingIdle])) s

theorem ringIdle_playReady (name : Name) (s : State) : RingIdle s (playReady name s) :=
  ((ringIdle_teardown s).trans (RingIdle.run (.write (by simp [RingIdle])) _)).trans
    (RingIdle.run (.write (by simp [RingIdle])) _)

/-- START's outcome for a state that has the same parameters. -/
theorem ClockSet.congr {s s' x : State} (h : ClockSet s x) (hcfg : s.cfg = s'.cfg) (hrate : s.rateQ = s'.rateQ)
    (hrb : s.rb = s'.rb) : ClockSet s' x := by
  have hle := h.pos_le_cap
  have hwr := h.wr
  have hbase := h.base
  have hreload := h.reload
  have hslots := h.rb
  rw [hcfg] at hle hwr hbase
  rw [hrate] at hreload
  rw [hrb] at hslots
  exact { h with
    cfg := h.cfg.trans hcfg, pos_le_cap := hle, wr := hwr, base := hbase, reload := hreload, rb := hslots }

/-- Settles O42: START's outcome from the state that TEARDOWN and the retained name leave. -/
theorem playOutcomes : Obligations.PlayOutcomes := by
  intro s name hopen
  have hready := streamStopped_playReady hopen name
  have hkept : StreamKept s (playReady name s) := by simp [StreamKept, playReady]
  have hcfg : (playReady name s).cfg = s.cfg := by simp [playReady]
  have hrate : (playReady name s).rateQ = s.rateQ := by simp [playReady]
  have hrb : (playReady name s).rb = s.rb := by simp [playReady]
  have hidle := ringIdle_playReady name s
  have hsans := sansStream_playReady name s
  have hrun := playCode_run name s
  have hstream := startStream_streamOnly (fun _ => name) (playReady name s)
  have houtcome := startStream_outcome (name := fun _ => name) hready
  generalize playReady name s = a at *
  generalize (startStream fun _ => name).run a = r at *
  obtain ⟨st, t⟩ := r
  have hframe : (gap t).sansStream = (retained name s).sansStream := by
    rw [sansStream_gap]
    exact hstream.trans hsans
  refine ⟨_, exec_eq (.play name) s, ?_⟩
  rw [commandCode, hrun]
  refine ⟨finish_eq_of_sansStream hframe st (playValue st), ?_⟩
  obtain ⟨hfailed, hstopped, hstream', hrd, hcount⟩ | ⟨rfl, x, hset, hfile, -, rfl⟩ := houtcome
  · have hstatus : (finish st (playValue st) (gap t)).respStatus = 1 ∨
        (finish st (playValue st) (gap t)).respStatus = 2 := by
      obtain rfl | rfl := hfailed
      · exact .inl rfl
      · exact .inr rfl
    have hvalue : (finish st (playValue st) (gap t)).respValue = 0 := by
      obtain rfl | rfl := hfailed <;> rfl
    refine .inr ⟨hstatus, hvalue, hstopped.finish st _, ?_, fun hie => ?_⟩
    · exact (hkept.trans hstream').trans (unstarted_gap t).kept
    · obtain ⟨-, ard, acount⟩ := hidle (.inl hie)
      obtain ⟨-, grd, gcount, -⟩ := offKept_gap t hstopped.2.1
      exact ⟨(grd.trans hrd).trans ard, (gcount.trans hcount).trans acount⟩
  · have hname : x.nameReg = name := by
      have hreg := congrArg State.nameReg hframe
      simpa [State.sansStream, retained] using hreg
    refine .inl ⟨rfl, rfl, ?_⟩
    exact (hset.congr hcfg hrate hrb).streamStarted (hfile.trans (congrArg some hname.symm)) .ok _

/-! ### UPDATE at the end of a stream with a due loop -/

/-- The stream is torn down for its restart (R252). -/
def restartReady (s : State) : State := (teardown.run (updateLoopAsked s)).2

theorem streamStopped_restartReady {s : State} (h : OpenOnlyIfActive s) : StreamStopped (restartReady s) := by
  refine streamStopped_teardown ?_
  simpa [OpenOnlyIfActive, updateLoopAsked, updateTested, updateAsked] using h

theorem sansStream_restartReady (s : State) : (restartReady s).sansStream = s.sansStream := by
  simp [State.sansStream, restartReady, updateLoopAsked, updateTested, updateAsked]

theorem ringIdle_restartReady (s : State) : RingIdle s (restartReady s) := by
  have hask : ∀ test, (Code.ask test).Steps RingIdle := .ask fun _ hs => ⟨hs, rfl, rfl⟩
  have hasked : RingIdle s (updateLoopAsked s) :=
    ((RingIdle.run (hask _) s).trans (RingIdle.run (hask _) _)).trans (RingIdle.run (hask _) _)
  exact hasked.trans (ringIdle_teardown _)

theorem drawsOn_restartReady (s : State) : DrawsOn s (restartReady s) := by
  have hask : ∀ test, (Code.ask test).Steps RunsReloaded := .ask commandSteps_reloaded.toStartSteps.refl
  have hasked : DrawsOn s (updateLoopAsked s) :=
    ((DrawsOn.run (hask _) s).trans (DrawsOn.run (hask _) _)).trans (DrawsOn.run (hask _) _)
  exact hasked.trans (DrawsOn.run commandSteps_reloaded.teardown _)

/-- No timer step between `s` and `t`, so none in its last part. -/
theorem NoTimerStep.last {b : List Byte} {s x t : State} (h : NoTimerStep s t) (hbefore : DrawsOn s x)
    (hlast : Passes b x t) : NoTimerStep x t := by
  obtain ⟨hscript, hdrawn⟩ := h
  obtain ⟨hdraws, m, hm⟩ := hbefore
  obtain ⟨n, _, hruns, -⟩ := hlast
  have hzero : m + n = 0 := (hm.trans hruns.drawn hdraws hruns.draws).unique hdrawn hscript
  have hn : n = 0 := by omega
  rw [hn] at hruns
  exact ⟨hscript, hruns.drawn⟩

/-- What the sample clock has made of a new stream since its clock was enabled (R240, R243). -/
theorem ClockSet.passes {s x t : State} (h : ClockSet s x) (hpasses : Passes [] x t)
    (hpos : t.dataPos = x.dataPos) :
    t.count.toNat ≤ t.dataPos.toNat ∧ t.rd.toNat = (t.dataPos.toNat - t.count.toNat) % s.cfg.bufCap ∧
      (t.count.toNat = t.dataPos.toNat → t.duty = 127) ∧
      (NoTimerStep x t → t.tf = false ∧ t.duty = 127 ∧ t.rd = 0 ∧ t.count.toNat = t.dataPos.toNat) := by
  have hcalm := hpasses.calm
  have hstill := hpasses.still
  obtain ⟨steps, popped, -, hmoves⟩ := hpasses
  have hcount := hmoves.count
  have hxcount := h.count
  have hrd := hmoves.rd (by rw [h.rd]; exact x.cfg.bufCap_pos)
  rw [slotAfter, h.rd, BitVec.ofNat_eq_ofNat, BitVec.toNat_zero, Nat.zero_add, h.cfg] at hrd
  rw [List.length_nil] at hcount
  rw [hpos]
  refine ⟨by omega, ?_, fun hfull => ?_, fun hquiet => ?_⟩
  · rw [hrd]
    congr 1
    omega
  · obtain hduty | hduty := hmoves.duty (by omega)
    · exact hduty.trans h.duty
    · exact hduty
  · obtain ⟨crd, cduty, ccount⟩ := hcalm (.inr ⟨h.tf, hquiet⟩)
    obtain ⟨-, -, htf⟩ := hstill hquiet
    rw [List.length_nil] at ccount
    exact ⟨(htf (.inr h.tf)).trans h.tf, cduty.trans h.duty, crd.trans h.rd, by omega⟩

/-- Settles O50: START's outcome from the state that TEARDOWN leaves, and the sample clock since its clock was
enabled. -/
theorem updateRestartsAtEndOfStream : Obligations.UpdateRestartsAtEndOfStream := by
  intro s hplaying hended hloop hopen
  have hrun : (updateCode.run s).2 = finish ((startStream fun s => s.nameReg).run (restartReady s)).1 0
      (gap ((startStream fun s => s.nameReg).run (restartReady s)).2) := by
    rw [updateCode_run_of_ended hplaying hended, endOfStreamCode_run_of_loop hloop, restartReady]
  have hready := streamStopped_restartReady hopen
  have hkept : StreamKept s (restartReady s) := by
    simp [StreamKept, restartReady, updateLoopAsked, updateTested, updateAsked]
  have hcfg : (restartReady s).cfg = s.cfg := by simp [restartReady, updateLoopAsked, updateTested, updateAsked]
  have hrate : (restartReady s).rateQ = s.rateQ := by
    simp [restartReady, updateLoopAsked, updateTested, updateAsked]
  have hrb : (restartReady s).rb = s.rb := by simp [restartReady, updateLoopAsked, updateTested, updateAsked]
  have hname : (gap (restartReady s)).nameReg = s.nameReg := by
    simp [restartReady, updateLoopAsked, updateTested, updateAsked]
  have hidle := ringIdle_restartReady s
  have hdraws := drawsOn_restartReady s
  have hsans := sansStream_restartReady s
  have hstream := startStream_streamOnly (fun s => s.nameReg) (restartReady s)
  have houtcome := startStream_outcome (name := fun s => s.nameReg) hready
  generalize restartReady s = a at *
  generalize (startStream fun s => s.nameReg).run a = r at *
  obtain ⟨st, t⟩ := r
  have hframe : (gap t).sansStream = s.sansStream := by
    rw [sansStream_gap]
    exact hstream.trans hsans
  refine ⟨_, exec_eq .update s, ?_⟩
  rw [commandCode, hrun]
  refine ⟨finish_eq_of_sansStream hframe st 0, ?_⟩
  obtain ⟨hfailed, hstopped, hstream', hrd, hcount⟩ | ⟨rfl, x, hset, hfile, hxdraws, rfl⟩ := houtcome
  · have hstatus : (finish st 0 (gap t)).respStatus = 1 ∨ (finish st 0 (gap t)).respStatus = 2 := by
      obtain rfl | rfl := hfailed
      · exact .inl rfl
      · exact .inr rfl
    obtain ⟨-, ard, acount⟩ := hidle (.inr (count_eq_zero_of_endOfStream hended))
    obtain ⟨-, grd, gcount, -⟩ := offKept_gap t hstopped.2.1
    exact .inr ⟨hstatus, hstopped.finish st _, (hkept.trans hstream').trans (unstarted_gap t).kept,
      (grd.trans hrd).trans ard, (gcount.trans hcount).trans acount⟩
  · have hreg : x.nameReg = s.nameReg := by
      have hreg := congrArg State.nameReg hframe
      simpa [State.sansStream] using hreg
    have hset' := hset.congr hcfg hrate hrb
    have hpos : (startedEnd .ok 0 x).dataPos = x.dataPos := by simp [startedEnd]
    obtain ⟨hle, hrd, hduty, hquiet⟩ := hset'.passes (passes_startedEnd .ok 0 x) hpos
    refine .inl ⟨rfl, hset'.streamStarted (hfile.trans (congrArg some (hname.trans hreg.symm))) .ok _, hle, hrd,
      hduty, fun h => hquiet ?_⟩
    exact h.last (hdraws.trans hxdraws) (passes_startedEnd .ok 0 x)

end Machine

end Sys2Proof
end

section
/-! The ring holds the bytes of the open file in order, after every step (R140). -/

namespace Sys2Proof

namespace Machine

open Host

/-! ### Files of legal length -/

theorem mem_of_lookupFile {files : List (Name × List Byte)} {name : Name} {bytes : List Byte}
    (h : lookupFile files name = some bytes) : ∃ f ∈ files, f.2 = bytes := by
  induction files with
  | nil => cases h
  | cons f rest ih =>
    obtain ⟨x, b⟩ := f
    rw [lookupFile] at h
    split at h
    · exact ⟨(x, b), List.mem_cons_self, Option.some.inj h⟩
    · obtain ⟨g, hg, hbytes⟩ := ih h
      exact ⟨g, List.mem_cons_of_mem _ hg, hbytes⟩

/-- The open file is of legal length (R71). -/
theorem Inv.length_openBytes_le {s : State} (h : Inv s) : (openBytes s).length ≤ 2 ^ 32 - 1 := by
  unfold openBytes
  cases hopen : s.openFile with
  | none => exact Nat.zero_le _
  | some name =>
    cases hlookup : lookupFile s.files name with
    | none => simp [hlookup]
    | some bytes =>
      obtain ⟨f, hf, rfl⟩ := mem_of_lookupFile hlookup
      simpa [hlookup, Config.offsetMax] using h.files_le f hf

/-! ### The ring and the file -/

/-- The ring invariant holds, and the ring holds the file's bytes in order. -/
def StreamSound (s : State) : Prop := RingInv s ∧ StreamInv s

/-- Bytes of a file, up to an offset, followed by those after it. -/
theorem take_drop_append_slice {file : List Byte} {e c : Nat} (h : c ≤ e) (k : Nat) :
    (file.drop (e - c)).take c ++ slice file e k = (file.drop (e - c)).take (c + k) := by
  have hdrop : (file.drop (e - c)).drop c = file.drop e := by
    rw [List.drop_drop, Nat.sub_add_cancel h]
  rw [List.take_add, hdrop, slice]

/-- REFILL's pushes and the ticks behind it keep the order (R140). -/
theorem Refills.streamSound {b : List Byte} {s t : State} (h : Refills b s t) (hfile : FromFile b s)
    (hs : StreamSound s) : StreamSound t := by
  obtain ⟨hring, hstream⟩ := hs
  have hpos := h.pos
  have hoffset := h.expectedOffset
  have hopen : openBytes t = openBytes s := h.kept.openBytes
  have hactive : t.streamActive = s.streamActive := h.kept.field State.streamActive fun _ => rfl
  obtain ⟨_, popped, -, hmoves⟩ := h.passes
  obtain ⟨htring, hcontents⟩ := hmoves.contents hring
  have hcount := hmoves.count
  refine ⟨htring, fun ht => ?_⟩
  obtain ⟨hle, hfileBytes⟩ := hstream (hactive.symm.trans ht)
  have hwithin : s.count.toNat ≤ Machine.expectedOffset s := hle.trans (Nat.le_add_left _ _)
  refine ⟨by omega, ?_⟩
  have hjoined : ringContents s ++ b =
      ((openBytes s).drop (Machine.expectedOffset s - s.count.toNat)).take (s.count.toNat + b.length) := by
    rw [hfileBytes]
    conv_lhs => rw [hfile]
    exact take_drop_append_slice hwithin _
  have hleft : s.count.toNat + b.length - popped = t.count.toNat := by omega
  have hstart : Machine.expectedOffset s - s.count.toNat + popped = Machine.expectedOffset t - t.count.toNat := by omega
  rw [hcontents, hjoined, List.drop_take, List.drop_drop, hopen, hleft, hstart]

/-- `StreamSound` goes over from `s` to `t`. -/
def KeepsStream (s t : State) : Prop := StreamSound s → StreamSound t

theorem keepsStream_gap (s : State) : KeepsStream s (gap s) :=
  (refills_gap s).streamSound (fromFile_nil s)

/-- The registers that `StreamSound` speaks of stay. -/
structure StreamSame (s t : State) : Prop where
  cfg : t.cfg = s.cfg
  files : t.files = s.files
  openFile : t.openFile = s.openFile
  active : t.streamActive = s.streamActive
  dataStart : t.dataStart = s.dataStart
  dataPos : t.dataPos = s.dataPos
  rd : t.rd = s.rd
  wr : t.wr = s.wr
  count : t.count = s.count
  rb : t.rb = s.rb

theorem StreamSame.refl (s : State) : StreamSame s s := ⟨rfl, rfl, rfl, rfl, rfl, rfl, rfl, rfl, rfl, rfl⟩

theorem StreamSame.keepsStream {s t : State} (h : StreamSame s t) : KeepsStream s t := by
  rintro ⟨hring, hstream⟩
  have hmoves : Moves [] 1 0 s { s with rd := t.rd, wr := t.wr, count := t.count, rb := t.rb, cfg := t.cfg } :=
    .of_eq h.cfg rfl (by simp) h.count h.rd h.wr h.rb rfl
  refine ⟨{ (hmoves.contents hring).1 with }, fun ht => ?_⟩
  have hoffset : expectedOffset t = expectedOffset s := by
    rw [expectedOffset, h.dataStart, h.dataPos, expectedOffset]
  rw [h.count, h.dataPos, ringContents_congr h.cfg h.rd h.count h.rb, openBytes_congr h.files h.openFile, hoffset]
  exact hstream (h.active.symm.trans ht)

theorem KeepsStream.run {α : Type} {c : Code α} (h : c.Steps StreamSame) {s : State} (hs : StreamSound s) :
    StreamSound (c.run s).2 :=
  (h.mono fun _ _ => StreamSame.keepsStream).run (fun _ hs => hs) (fun h k hs => k (h hs)) keepsStream_gap
    (fun _ _ => StreamSame.keepsStream ⟨rfl, rfl, rfl, rfl, rfl, rfl, rfl, rfl, rfl, rfl⟩) s hs

theorem plainSteps_streamSame : PlainSteps StreamSame := by
  constructor
  case refl => exact StreamSame.refl
  case arg =>
    intro idx v s
    rw [writeArg_cases]
    exact ⟨rfl, rfl, rfl, rfl, rfl, rfl, rfl, rfl, rfl, rfl⟩
  all_goals
    intros
    constructor <;> simp

/-- Where no stream is active nothing is asked of the ring's bytes. -/
theorem streamInv_of_inactive {s : State} (h : s.streamActive = false) : StreamInv s := fun hactive => by
  rw [h] at hactive
  cases hactive

/-! ### REFILL and START -/

theorem refill_streamSound {s : State} (hinv : Inv s) (hs : StreamInv s) : StreamSound (refill.run s).2 := by
  obtain ⟨bytes, hrefills, hfile, -⟩ := refill_refills s
  exact hrefills.streamSound (hfile hinv.length_openBytes_le) ⟨hinv.ring, hs⟩

/-- Priming and the clock's registers (R239, R241). -/
theorem primeAndEnable_streamSound {s : State} (hinv : Inv s) (hs : StreamInv s) :
    StreamSound (primeAndEnable.run s).2 := by
  obtain ⟨bytes, hrefills, hfile⟩ := refillTimes_refills Config.primeCycles s
  have hprimed : StreamSound ((refillTimes Config.primeCycles).run s).2 :=
    hrefills.streamSound (hfile hinv.length_openBytes_le) ⟨hinv.ring, hs⟩
  rw [primeAndEnable, Code.run_andThen]
  refine KeepsStream.run ?_ hprimed
  refine .andThen (.write fun _ => ?_) <|
    .andThen (applyRate_steps .refl plainSteps_streamSame.reload) (.atomic fun _ => ?_)
  · exact ⟨rfl, rfl, rfl, rfl, rfl, rfl, rfl, rfl, rfl, rfl⟩
  · constructor <;> simp

/-- `Inv` goes over from `s` to `t`. -/
def KeepsInv (s t : State) : Prop := Inv s → Inv t

theorem KeepsInv.run {α : Type} {c : Code α} (h : c.Steps KeepsInv) {s : State} (hs : Inv s) : Inv (c.run s).2 :=
  h.run (R := KeepsInv) (fun _ h => h) (fun h k hs => k (h hs)) (fun _ h => h.gap)
    (fun a _ h => h.advanceSeq a) s hs

theorem inv_committed {s : State} (h : Inv s) (name : State → Name) (start size rate : Word) :
    Inv (committed name start size rate s) := by
  have hopened : Inv (opened name s) := KeepsInv.run (.openFile fun n _ h => h.stOpen n) h
  have hparsed : Inv (parsed name s) := KeepsInv.run
    (ParseSteps.parse ⟨fun _ h => h, fun n _ h => h.stRead n, fun p _ h => h.stSeek p⟩) hopened
  have hasked : Inv ((Code.ask fun _ => false).run (parsed name s)).2 :=
    KeepsInv.run (.ask (fun _ h => h) _) hparsed
  have hassigned := KeepsInv.run (.assign fun _ h => h) hasked
  exact KeepsInv.run (.atomic fun s h => ((h.hold).commitStream start size rate).hold) hassigned

/-- The ring is empty after the commit (R135, R238). -/
theorem streamInv_committed (name : State → Name) (start size rate : Word) (s : State) :
    StreamInv (committed name start size rate s) := fun _ => by
  have hcount : (committed name start size rate s).count = 0 := by simp [committed]
  have hzero : (committed name start size rate s).count.toNat = 0 := by rw [hcount]; rfl
  rw [ringContents_of_count_eq_zero hzero, hzero]
  exact ⟨Nat.zero_le _, rfl⟩

/-- START (R233, R240). -/
theorem startStream_streamSound {s : State} (h : Sound Torn s) (name : State → Name) :
    StreamSound ((startStream name).run s).2 := by
  have hinv : Inv ((startStream name).run s).2 := (startStream_meets name s h).of_run.1
  have hinactive : s.streamActive = false := h.2.2.2.1
  refine ⟨hinv.ring, ?_⟩
  obtain ⟨-, hrun⟩ | ⟨-, -, hrun⟩ | ⟨-, start, size, rate, -, hrun⟩ := startStream_cases name s
  · simp only [hrun]
    exact streamInv_of_inactive ((unstarted_opened name s).active.trans hinactive)
  · simp only [hrun]
    exact streamInv_of_inactive ((unstarted_rejected name s).active.trans hinactive)
  · simp only [hrun]
    exact (primeAndEnable_streamSound (inv_committed h.1 name start size rate)
      (streamInv_committed name start size rate s)).2

/-! ### The commands -/

theorem finish_streamSound {s : State} (h : StreamSound s) (st : Status) (v : State → Word) :
    StreamSound ((Code.finish st v).run s).2 := KeepsStream.run (plainSteps_streamSame.finishCode st v) h

/-- A command that ends without a stream. -/
theorem teardown_finish_streamInv (s : State) :
    StreamInv ((teardown.andThen <| Code.finish .ok fun _ => 0).run s).2 := by
  refine streamInv_of_inactive ?_
  simp

/-- At rest, with the ring holding the file's bytes in order. -/
def StreamRest (s : State) : Prop := Sound AtRest s ∧ StreamInv s

theorem StreamRest.sound {s : State} (h : StreamRest s) : StreamSound s := ⟨h.1.1.ring, h.2⟩

theorem StreamRest.ask {s : State} (h : StreamRest s) (test : State → Bool) :
    StreamRest ((Code.ask test).run s).2 :=
  ⟨h.1.gap.advanceSeq _, (KeepsStream.run (.ask .refl test) h.sound).2⟩

theorem update_streamInv {s : State} (h : StreamRest s) : StreamInv (updateCode.run s).2 := by
  by_cases hplaying : s.pstate = .playing
  · have htested : StreamRest (updateTested s) := (h.ask _).ask _
    rw [updateCode_run_of_playing hplaying rfl]
    split
    · have hasked : StreamRest (updateLoopAsked s) := htested.ask _
      cases hloop : loopDue s with
      | true =>
        have htorn : Sound Torn (teardown.run (updateLoopAsked s)).2 := (teardown_meets _ hasked.1).of_run
        rw [endOfStreamCode_run_of_loop hloop]
        have hend := finish_streamSound (startStream_streamSound htorn fun s => s.nameReg)
          ((startStream fun s => s.nameReg).run (teardown.run (updateLoopAsked s)).2).1 fun _ => 0
        rw [Code.run_finish, advanceSeq_finish] at hend
        exact hend.2
      | false =>
        rw [endOfStreamCode_run_of_no_loop hloop, ← Code.run_andThen]
        exact teardown_finish_streamInv _
    · rw [Code.run_andThen]
      exact (finish_streamSound (refill_streamSound htested.1.1 htested.2) _ _).2
  · rw [updateCode, run_ask_bind (b := true) (by simp [hplaying])]
    exact (finish_streamSound (h.ask _).sound _ _).2

theorem play_streamInv {s : State} (h : Sound AtRest s) (name : Name) : StreamInv ((playCode name).run s).2 := by
  have htorn : Sound Torn (teardown.run s).2 := (teardown_meets s h).of_run
  have hnamed : Sound Torn ((Code.write (writeName name)).run (teardown.run s).2).2 :=
    (Code.Meets.write (fun _ h => ⟨h.1.writeName name, h.2⟩) _ htorn).of_run
  have hready : Sound Torn (playReady name s) :=
    (Code.Meets.write (fun _ h => ⟨h.1.markNameValid, h.2⟩) _ hnamed).of_run
  have hend := finish_streamSound (startStream_streamSound hready fun _ => name)
    ((startStream fun _ => name).run (playReady name s)).1
    fun _ => playValue ((startStream fun _ => name).run (playReady name s)).1
  rw [Code.run_finish, advanceSeq_finish] at hend
  rw [playCode_run]
  exact hend.2

theorem pause_resume_steps : (∀ mute, (pauseCode mute).Steps StreamSame) ∧ resumeCode.Steps StreamSame := by
  have hfinish := plainSteps_streamSame.finishCode
  constructor
  · intro mute
    refine .bind (.ask .refl _) fun playing => ?_
    split
    · exact .andThen (.atomic fun _ => by constructor <;> simp) <|
        .andThen (.when .refl fun _ => by constructor <;> simp) <|
        .andThen (.write fun _ => by constructor <;> simp) (hfinish _ _)
    · exact hfinish _ _
  · refine .bind (.ask .refl _) fun paused => ?_
    split
    · exact .andThen (.write fun _ => by constructor <;> simp) <|
        .andThen (.atomic fun _ => by constructor <;> simp) (hfinish _ _)
    · exact hfinish _ _

theorem commandCode_streamInv {s : State} (h : StreamRest s) (i : Instr) :
    StreamInv ((commandCode i).run s).2 := by
  by_cases hi : MovesPlayback i
  · obtain ⟨name, rfl⟩ | rfl | ⟨mute, rfl⟩ | rfl | rfl := hi
    · rw [commandCode]
      exact play_streamInv h.1 name
    · rw [commandCode, stopCode]
      exact teardown_finish_streamInv s
    · exact (KeepsStream.run (pause_resume_steps.1 mute) h.sound).2
    · exact (KeepsStream.run pause_resume_steps.2 h.sound).2
    · rw [commandCode]
      exact update_streamInv h
  · exact (KeepsStream.run (plainSteps_streamSame.commandCode hi) h.sound).2

theorem wordCode_streamInv {s : State} (h : StreamRest s) (w : Word) : StreamInv ((wordCode w).run s).2 := by
  cases hdecode : decodeWord w with
  | ok i =>
    rw [wordCode_of_ok hdecode]
    exact commandCode_streamInv h i
  | error e =>
    rw [wordCode_of_error hdecode, illegalCode]
    exact (finish_streamSound h.sound _ _).2

/-! ### Every step -/

/-- Where nothing is asked on the way, only the end counts. -/
theorem keeps_of_run {α : Type} {J : α → State → Prop} {c : Code α} {s : State} (h : J (c.run s).1 (c.run s).2) :
    c.Keeps (fun _ => True) J s := by
  induction c generalizing s with
  | ret a => exact h
  | seg effect next ih => exact ⟨trivial, ih _ h⟩

/-- Settles O16: a running command ends with the bytes in order, as does a whole one, and the sample clock takes
bytes from the front alone. -/
theorem stepKeepsFileBytesInOrder : Obligations.StepKeepsFileBytesInOrder := by
  intro s t hlegal hstream hstep
  have htlegal : Legal t := stepKeepsInvariants.2 s t hlegal hstep
  have hrested : t.busy = false → StreamInv t → StreamLegal t := fun hbusy ht => by
    have hrest := htlegal.rest hbusy
    exact (throughout_of_idle hrest.not_busy hrest.seq_idle).mpr ht
  obtain ⟨hbusy, rfl⟩ | ⟨hbusy, hidle⟩ := step_cases hstep
  · obtain ⟨hfalse, -⟩ | ⟨w, answers, hs, hkeeps⟩ := throughout_cases hlegal
    · cases hbusy.symm.trans hfalse
    · have hleft := (throughout_of_running hs).mp hstream
      exact throughout_runSegment hs hleft (not_ret_of_running hs hkeeps)
  · have hrest := hlegal.rest hbusy
    have hinv : StreamInv s := (throughout_of_idle hrest.not_busy hrest.seq_idle).mp hstream
    have haccepted : ∀ w host, StreamRest (acceptWord w { s with host := host }) := fun w host =>
      ⟨⟨(hrest.toInv.withHost host).acceptWord w, hrest.open_iff⟩, hinv⟩
    obtain ⟨w, rest, -, rfl⟩ | ⟨w, rest, -, rfl⟩ | ⟨pos, rest, -, rfl⟩ | ⟨rest, rfl⟩ := hidle
    · have hend : RestInv ((wordCode w).run (acceptWord w { s with host := rest })).2 :=
        (wordCode_meets w _ (haccepted w rest).1).of_run
      exact hrested hend.not_busy (wordCode_streamInv (haccepted w rest) w)
    · refine (throughout_of_running (w := w) (answers := []) ⟨rfl, rfl⟩).mpr ?_
      rw [Code.after]
      exact keeps_of_run (wordCode_streamInv (haccepted w rest) w)
    · exact hrested hbusy hinv
    · have hsound : StreamSound { s with host := rest, respValid := false } := ⟨{ hrest.ring with }, hinv⟩
      exact hrested (by simpa using hbusy) (keepsStream_gap _ hsound).2

end Machine

end Sys2Proof
end

section
/-! PLAY of a canonical file from a faithful device (R239, R241, R243). -/

namespace Sys2Proof

namespace Machine

open Host

/-! ### REFILL from a faithful device -/

/-- The device serves the bytes from the next one to read on, with an answer for each slot of the ring that is
free, and the interrupt is off. -/
structure Feeding (file : List Byte) (j : Nat) (s x : State) : Prop where
  serving : ∃ k, x.cfg.bufCap - x.count.toNat ≤ k ∧ Serving file (expectedOffset x) k j s x
  ie : x.ie = false
  active : x.streamActive = true
  eod : x.eod = false
  data : x.dataStart.toNat + x.dataSize.toNat ≤ file.length

section

variable {file : List Byte} {j : Nat} {s x : State}

theorem Feeding.segment (h : Feeding file j s x) (a : Answer) : Feeding file (j + 1) s (advanceSeq a (gap x)) := by
  obtain ⟨⟨k, hk, hserving⟩, hie, hactive, heod, hdata⟩ := h
  have hcount : (gap x).count = x.count := (gap_noTick x hie).2.1
  have hoffset : expectedOffset (advanceSeq a (gap x)) = expectedOffset x := by simp [expectedOffset]
  refine ⟨⟨k, by simpa [hcount] using hk, ?_⟩, by simpa using hie, by simpa using hactive, by simpa using heod,
    by simpa using hdata⟩
  rw [hoffset]
  exact hserving.segment a

/-- A faithful round reads all that it asks for. -/
theorem Feeding.length_roundBytes (h : Feeding file j s x) (hfile : file.length ≤ 2 ^ 32 - 1)
    (hwanted : refillWanted (roundCount x) x = true) :
    (roundBytes x).length = roundSize x ∧ ∃ k, x.cfg.bufCap - x.count.toNat ≤ k + 1 ∧
      Serving file (expectedOffset x + roundSize x) k (j + 4) s (roundRead x) := by
  obtain ⟨⟨k, hk, hserving⟩, hie, -, -, hdata⟩ := h
  obtain ⟨hpos, hchunk, hroom, hleft⟩ := roundSize_mem hwanted
  have hcount : roundCount x = x.count.toNat := congrArg BitVec.toNat (gap_noTick x hie).2.1
  obtain ⟨k, rfl⟩ : ∃ m, k = m + 1 := ⟨k - 1, by omega⟩
  have hsized : Serving file (expectedOffset x) (k + 1) (j + 3) s (roundSized x) :=
    ((hserving.segment _).segment _).segment _
  have hend : expectedOffset x + roundSize x ≤ file.length := by
    rw [expectedOffset]
    omega
  obtain ⟨hbytes, hread⟩ := hsized.read hchunk hend (by omega)
  refine ⟨?_, k, hk, hread⟩
  have hlength := length_slice hend
  rwa [← hbytes] at hlength

/-- Nine intervals pass in a round. -/
theorem timerScript_roundEnd (x : State) :
    (roundEnd x).timerScript = (roundRead x).timerScript.drop 5 := by
  by_cases hshort : (roundBytes x).length < roundSize x <;>
    simp [roundEnd, hshort, roundAdvanced, roundPushed, timerScript_gap, timerScript_hold, List.drop_drop]

theorem Feeding.round (h : Feeding file j s x) (hfile : file.length ≤ 2 ^ 32 - 1)
    (hwanted : refillWanted (roundCount x) x = true) :
    Feeding file (j + 9) s (roundEnd x) ∧ x.count.toNat < (roundEnd x).count.toNat ∧
      ¬ (roundBytes x).length < roundSize x := by
  obtain ⟨hlength, k, hk, hread⟩ := h.length_roundBytes hfile hwanted
  obtain ⟨hpos, -, -, -⟩ := roundSize_mem hwanted
  have hrefills := refills_round hwanted
  have hcount := hrefills.count_of_off h.ie
  have hcfg := hrefills.passes.cfg
  have hstart : (roundEnd x).dataStart = x.dataStart := hrefills.kept.field State.dataStart fun _ => rfl
  have hactive : (roundEnd x).streamActive = x.streamActive := hrefills.kept.field State.streamActive fun _ => rfl
  have hoffset := hrefills.expectedOffset
  have hfull : ¬ (roundBytes x).length < roundSize x := by omega
  refine ⟨⟨⟨k, ?_, ?_, ?_, ?_⟩, hrefills.passes.ie.trans h.ie, hactive.trans h.active, ?_, ?_⟩, by omega, hfull⟩
  · rw [hcfg]
    omega
  · rw [hoffset, hlength]
    exact hread.at_pos.congr (by simp [roundEnd, hfull, roundAdvanced, roundPushed])
      (by simp [roundEnd, hfull, roundAdvanced, roundPushed]) (by simp [roundEnd, hfull, roundAdvanced, roundPushed])
  · exact hread.faithful.congr (by simp [roundEnd, hfull, roundAdvanced, roundPushed])
  · rw [timerScript_roundEnd, hread.passed, List.drop_drop]
  · rw [eod_roundEnd hwanted]
    simpa using hfull
  · rw [hstart, hrefills.dataSize]
    exact h.data

/-- The loop takes nine intervals for each byte pushed at most, and two for its last test. -/
theorem Feeding.refillLoop (hfile : file.length ≤ 2 ^ 32 - 1) (fuel : Nat) (h : Feeding file j s x) :
    ∃ j', j' + 9 * x.count.toNat ≤ j + 9 * ((Machine.refillLoop fuel).run x).2.count.toNat + 2 ∧
      Feeding file j' s ((Machine.refillLoop fuel).run x).2 := by
  induction fuel generalizing j x with
  | zero => exact ⟨j, by simp [Machine.refillLoop], h⟩
  | succ fuel ih =>
    cases hwanted : refillWanted (roundCount x) x with
    | false =>
      have hasked : Feeding file (j + 2) s (roundAsked x) := (h.segment _).segment _
      have hcount := (refills_roundAsked x).count_of_off h.ie
      rw [refillLoop_run_of_enough hwanted]
      refine ⟨j + 2, ?_, hasked⟩
      rw [hcount, List.length_nil]
      omega
    | true =>
      obtain ⟨hround, hgrows, hfull⟩ := h.round hfile hwanted
      obtain ⟨j', hj', hend⟩ := ih hround
      rw [refillLoop_run_of_wanted hwanted, if_neg hfull]
      exact ⟨j', by omega, hend⟩

/-- With the cursor where it should be REFILL neither latches nor seeks. -/
theorem Feeding.refillSought (h : Feeding file j s x) : Feeding file (j + 4) s (refillSought x) := by
  obtain ⟨k, -, hserving⟩ := h.serving
  have hcur := hserving.at_pos.cur
  have hwithin : ¬ Config.offsetMax < expectedOffset x := by
    rw [← hcur]
    exact Nat.not_lt.mpr (Nat.le_of_lt_succ x.cur.isLt)
  have hasked : Feeding file (j + 2) s (refillAsked x) := (h.segment _).segment _
  have htested : refillTested x = advanceSeq (.flag false) (gap (refillAsked x)) := by
    simp [refillTested, hwithin]
  have hstays : stTell (gap (refillTested x)) = expectedOffset x := by
    rw [← hcur]
    simp [stTell, htested, refillAsked]
  have hsought : Machine.refillSought x = advanceSeq (.flag false) (gap (refillTested x)) := by
    simp [Machine.refillSought, hstays]
  rw [hsought, htested]
  exact (hasked.segment _).segment _

theorem Feeding.refill (hfile : file.length ≤ 2 ^ 32 - 1) (h : Feeding file j s x) :
    ∃ j', j' + 9 * x.count.toNat ≤ j + 9 * (Machine.refill.run x).2.count.toNat + 6 ∧
      Feeding file j' s (Machine.refill.run x).2 := by
  obtain ⟨k, -, hserving⟩ := h.serving
  obtain ⟨hinactive, -⟩ | ⟨-, ⟨hbeyond, -⟩ | ⟨-, hrun⟩⟩ := refill_run x
  · cases h.active.symm.trans hinactive
  · rw [← hserving.at_pos.cur] at hbeyond
    exact absurd (Nat.le_of_lt_succ x.cur.isLt) (Nat.not_le_of_lt hbeyond)
  · obtain ⟨j', hj', hend⟩ := h.refillSought.refillLoop hfile refillBound
    have hcount := (refills_refillSought x).count_of_off h.ie
    rw [List.length_nil] at hcount
    rw [hrun]
    exact ⟨j', by omega, hend⟩

theorem Feeding.refillTimes (hfile : file.length ≤ 2 ^ 32 - 1) (n : Nat) (h : Feeding file j s x) :
    ∃ j', j' + 9 * x.count.toNat ≤ j + 9 * ((Machine.refillTimes n).run x).2.count.toNat + 6 * n ∧
      Feeding file j' s ((Machine.refillTimes n).run x).2 := by
  induction n generalizing j x with
  | zero => exact ⟨j, by simp [Machine.refillTimes], h⟩
  | succ n ih =>
    obtain ⟨i, hi, hrefilled⟩ := h.refill hfile
    obtain ⟨j', hj', hend⟩ := ih hrefilled
    rw [Machine.refillTimes, Code.run_andThen]
    exact ⟨j', by omega, hend⟩

/-- The first REFILL of the priming reaches the level or the end of the data (R239, R347). -/
theorem Feeding.primed (hfile : file.length ≤ 2 ^ 32 - 1) (h : Feeding file j s x) :
    x.cfg.bufCap - x.cfg.margin ≤ (primed x).count.toNat ∨ x.dataSize.toNat ≤ (primed x).dataPos.toNat := by
  obtain ⟨i, -, hrefilled⟩ := h.refill hfile
  obtain ⟨b, hb, -, hfilled, -⟩ := refill_refills x
  obtain ⟨b', hb', -⟩ := refillTimes_refills 1 (Machine.refill.run x).2
  have hprimed : Machine.primed x = ((Machine.refillTimes 1).run (Machine.refill.run x).2).2 :=
    congrArg Prod.snd (Code.run_andThen ..)
  have hcount := hb.count_of_off h.ie
  have hcount' := hb'.count_of_off hrefilled.ie
  have hpos' := hb'.pos
  rw [hprimed]
  obtain hlevel | hdata | heod := hfilled h.active
  · exact .inl (by omega)
  · rw [hb.dataSize] at hdata
    exact .inr (by omega)
  · cases hrefilled.eod.symm.trans heod

end

/-! ### PLAY of a canonical file -/

/-- Nine intervals pass up to the open (R233). -/
theorem timerScript_playReady (name : Name) (s : State) :
    (playReady name s).timerScript = s.timerScript.drop 9 := by
  cases hactive : s.streamActive <;>
    simp [playReady, teardown, hactive, timerScript_gap, timerScript_hold, List.drop_drop]

/-- The device opens the file (R81). -/
theorem serving_opened {s : State} {name : Name} {file : List Byte} {rest : List Bool} {k : Nat}
    (hfile : lookupFile s.files name = some file) (hscript : s.openScript = true :: rest)
    (hfaithful : FaithfulReads k s) :
    ((Code.openFile fun _ => name).run (playReady name s)).1 = true ∧
      Serving file 0 k 10 s (opened (fun _ => name) (playReady name s)) := by
  have hopen : stOpen name (gap (playReady name s)) =
      (true, { gap (playReady name s) with openScript := rest, openFile := some name, cur := 0 }) :=
    stOpen_of_script (by simpa [playReady] using hfile) (by simp [playReady, hscript])
  have hopened : opened (fun _ => name) (playReady name s) = advanceSeq (.flag true)
      { gap (playReady name s) with openScript := rest, openFile := some name, cur := 0 } := by
    rw [opened, Code.run_openFile, hopen]
  refine ⟨by rw [Code.run_openFile, hopen], ⟨?_, ?_⟩, ?_, ?_⟩
  · have hlookup : lookupFile (playReady name s).files name = some file := by simpa [playReady] using hfile
    rw [hopened]
    simp [openBytes, hlookup]
  · rw [hopened]
    rfl
  · refine hfaithful.congr ?_
    rw [hopened]
    simp [playReady]
  · rw [hopened]
    simp only [advanceSeq_fields, timerScript_gap, timerScript_playReady, List.drop_drop]

/-- Five intervals pass from PARSE to the end of the commit (R238). -/
theorem timerScript_committed (name : State → Name) (start size rate : Word) (s : State) :
    (committed name start size rate s).timerScript = (parsed name s).timerScript.drop 5 := by
  simp [committed, timerScript_gap, timerScript_hold, List.drop_drop]

/-- A served stream is ready to be refilled once it is committed (R238). -/
theorem Serving.committed {file : List Byte} {k j : Nat} {s a : State} {name : State → Name}
    {start size rate : Word} (h : Serving file start.toNat k j s (parsed name a)) (hmuted : Muted a)
    (hdata : start.toNat + size.toNat ≤ file.length) (hk : a.cfg.bufCap ≤ k) :
    Feeding file (j + 5) s (committed name start size rate a) := by
  have hfresh := fresh_committed (name := name) hmuted start size rate
  have hstart : (Machine.committed name start size rate a).dataStart = start := by simp [Machine.committed]
  have hsize : (Machine.committed name start size rate a).dataSize = size := by simp [Machine.committed]
  have hoffset : expectedOffset (Machine.committed name start size rate a) = start.toNat := by
    rw [expectedOffset, hstart, hfresh.dataPos]
    rfl
  refine ⟨⟨k, ?_, ?_, ?_, ?_⟩, hfresh.ie, hfresh.active, by simp [Machine.committed], by rwa [hstart, hsize]⟩
  · rw [hfresh.cfg]
    exact (Nat.sub_le _ _).trans hk
  · rw [hoffset]
    exact h.at_pos.congr (by simp [Machine.committed]) (by simp [Machine.committed])
      (by simp [Machine.committed])
  · exact h.faithful.congr (by simp [Machine.committed])
  · rw [timerScript_committed, h.passed, List.drop_drop]

/-- Eleven intervals pass from the priming to the response (R241). -/
theorem timerScript_startedEnd (st : Status) (v : Word) (x : State) :
    (startedEnd st v (enabled x)).timerScript = (primed x).timerScript.drop 11 := by
  simp [startedEnd, enabled, clocked, applyRate, timerScript_gap, timerScript_hold, List.drop_drop]

/-- A script of zeros that is not used up makes no timer step (log 5). -/
theorem NoTimerStep.of_quiet {n j : Nat} {s t : State} (h : Quiet n s) (hj : j < n)
    (hscript : t.timerScript = s.timerScript.drop j) : NoTimerStep s t := by
  obtain ⟨hlen, hzero⟩ := h
  have hnonempty : t.timerScript ≠ [] := by
    rw [hscript]
    exact List.ne_nil_of_length_pos (by rw [List.length_drop]; omega)
  have hsum : (s.timerScript.take j).sum = 0 := by
    refine List.sum_eq_zero fun k hk => hzero k ?_
    exact (List.take_prefix_take_left (by omega)).subset hk
  refine ⟨hnonempty, s.timerScript.take j, [], ?_, fun _ => rfl, .nil, by simp, by simp [hsum]⟩
  rw [hscript, List.take_append_drop]

theorem drawsOn_playReady (name : Name) (s : State) : DrawsOn s (playReady name s) := by
  have htorn : DrawsOn s (teardown.run s).2 := DrawsOn.run commandSteps_reloaded.teardown s
  have hnamed : DrawsOn s ((Code.write (writeName name)).run (teardown.run s).2).2 :=
    htorn.trans (DrawsOn.run (.write (commandSteps_reloaded.name name)) _)
  exact hnamed.trans (DrawsOn.run (.write commandSteps_reloaded.nameValid) _)

/-- A served canonical file leads START to its clock (R166, R238, R241). -/
theorem startStream_canonical {riff rate byteRate size k j : Nat} {pcm : List Byte} {s a : State}
    {name : State → Name} (hrate : rate < 2 ^ 32) (hsize : size < 2 ^ 32)
    (hopen : ((Code.openFile name).run a).1 = true)
    (h : Serving (canonicalFile riff rate byteRate size pcm) 0 (k + 13) j s (opened name a)) :
    Serving (canonicalFile riff rate byteRate size pcm) 44 k (j + 27) s (parsed name a) ∧
      (startStream name).run a = (.ok, advanceSeq .done (hold (enabled
        (committed name 44 (BitVec.ofNat 32 size) (BitVec.ofNat 32 rate) a)))) := by
  obtain ⟨hok, hparsed⟩ := h.parse_canonical hrate hsize
  refine ⟨hparsed, ?_⟩
  obtain ⟨hfail, -⟩ | ⟨-, hfail, -⟩ | ⟨-, start, sz, sr, hresult, hrun⟩ := startStream_cases name a
  · cases hopen.symm.trans hfail
  · cases hok.symm.trans hfail
  · obtain ⟨rfl, rfl, rfl⟩ := ParseResult.ok.inj (hok.symm.trans hresult)
    rw [hrun, primeAndEnable_run]

/-- What the clock's registers and the response leave of the primed stream. -/
theorem startedEnd_fields (st : Status) (v : Word) (c : State) :
    (startedEnd st v (enabled c)).dataStart = (primed c).dataStart ∧
    (startedEnd st v (enabled c)).dataSize = (primed c).dataSize ∧
    (startedEnd st v (enabled c)).sampleRate = (primed c).sampleRate ∧
    (startedEnd st v (enabled c)).dataPos = (primed c).dataPos ∧
    (startedEnd st v (enabled c)).eod = (primed c).eod := by
  simp [startedEnd, enabled, clocked]

theorem startedEnd_kept (st : Status) (v : Word) (x : State) :
    (startedEnd st v x).pstate = x.pstate ∧ (startedEnd st v x).ie = x.ie ∧
    (startedEnd st v x).baseReload = x.baseReload ∧ (startedEnd st v x).reloadReg = x.reloadReg ∧
    (startedEnd st v x).dataPos = x.dataPos ∧ (startedEnd st v x).dataSize = x.dataSize ∧
    (startedEnd st v x).sampleRate = x.sampleRate := by
  simp [startedEnd]

/-- A fed stream after its clock was enabled: primed to the level, or to the end of its data, within a number of
intervals that the capacity bounds (R239, R347). -/
theorem Feeding.started {file : List Byte} {j : Nat} {s a c : State} (h : Feeding file j s c) (hfresh : Fresh a c)
    (hfile : file.length ≤ 2 ^ 32 - 1) (st : Status) (v : Word) :
    min c.dataSize.toNat (c.cfg.bufCap - c.cfg.margin) ≤ (startedEnd st v (enabled c)).dataPos.toNat ∧
      (startedEnd st v (enabled c)).eod = false ∧
      ∃ i, i ≤ j + 23 + 9 * (startedEnd st v (enabled c)).dataPos.toNat ∧
        (startedEnd st v (enabled c)).timerScript = s.timerScript.drop i := by
  obtain ⟨-, -, -, hpos, heod⟩ := startedEnd_fields st v c
  obtain ⟨bytes, hrefills, -⟩ := refillTimes_refills Config.primeCycles c
  obtain ⟨j', hj', hprimed⟩ := h.refillTimes hfile Config.primeCycles
  have hlevel := h.primed hfile
  have hcount := hrefills.count_of_off h.ie
  have hread := hrefills.pos
  rw [hfresh.count] at hcount hj'
  rw [hfresh.dataPos] at hread
  obtain ⟨k, -, hserving⟩ := hprimed.serving
  have hscript := timerScript_startedEnd st v c
  rw [hpos, heod, hscript]
  have hpassed : (Machine.primed c).timerScript = s.timerScript.drop j' := hserving.passed
  rw [hpassed, List.drop_drop]
  have hlength : ((Machine.refillTimes Config.primeCycles).run c).2.dataPos.toNat =
      ((Machine.refillTimes Config.primeCycles).run c).2.count.toNat := by simp [hcount, hread]
  have hzero : (0 : BitVec 17).toNat = 0 := rfl
  refine ⟨?_, hprimed.eod, j' + 11, ?_, rfl⟩
  · simp only [Machine.primed] at hlevel ⊢
    omega
  · simp only [Machine.primed, Config.primeCycles] at hj' hlength ⊢
    omega

/-- Settles O44: the device's answers lead PARSE to the data and each read of the priming to all that it asks;
the intervals are counted against the script of zeros. -/
theorem playPrimesCanonicalStream : Obligations.PlayPrimesCanonicalStream := by
  intro s name riff rate byteRate size pcm rest hrate hsize hlen hlookup hscript hfaithful
  have hfaithful' : FaithfulReads (s.cfg.bufCap + 13) s := by rwa [Nat.add_comm]
  have hsize' : size < 2 ^ 32 := by omega
  have hsizeNat : (BitVec.ofNat 32 size).toNat = size := Nat.mod_eq_of_lt hsize'
  have hrateNat : (BitVec.ofNat 32 rate).toNat = rate := Nat.mod_eq_of_lt hrate
  have hfile := length_canonicalFile riff rate byteRate size pcm
  obtain ⟨hopen, hopened⟩ := serving_opened (file := canonicalFile riff rate byteRate size pcm) hlookup hscript
    hfaithful'
  obtain ⟨hparsed, hstart⟩ := startStream_canonical hrate hsize' hopen hopened
  have hmuted := muted_playReady name s
  have hcfg : (playReady name s).cfg = s.cfg := by simp [playReady]
  have hrateQ : (playReady name s).rateQ = s.rateQ := by simp [playReady]
  have hrb : (playReady name s).rb = s.rb := by simp [playReady]
  have hfresh := fresh_committed (name := fun _ => name) hmuted 44 (BitVec.ofNat 32 size) (BitVec.ofNat 32 rate)
  have hfeeding := hparsed.committed (start := 44) (size := BitVec.ofNat 32 size)
    (rate := BitVec.ofNat 32 rate) hmuted (by rw [hsizeNat, hfile]; exact Nat.add_le_add_left hsize 44) (by rw [hcfg])
  have hdraws := (drawsOn_playReady name s).trans
    ((drawsOn_committed (fun _ => name) 44 (BitVec.ofNat 32 size) (BitVec.ofNat 32 rate) _).trans
      (drawsOn_enabled _))
  have hset := (clockSet_enabled hfresh).congr hcfg hrateQ hrb
  have hrun := playCode_run name s
  have hcommitted : ∀ x, committed (fun _ => name) 44 (BitVec.ofNat 32 size) (BitVec.ofNat 32 rate)
      (playReady name s) = x → x.dataStart = 44 ∧ x.dataSize = BitVec.ofNat 32 size ∧
        x.sampleRate = BitVec.ofNat 32 rate := by
    rintro x rfl
    simp [committed]
  rw [hstart] at hrun
  have hfileLe : (canonicalFile riff rate byteRate size pcm).length ≤ 2 ^ 32 - 1 := by rwa [hfile]
  generalize committed (fun _ => name) 44 (BitVec.ofNat 32 size) (BitVec.ofNat 32 rate) (playReady name s) = c at *
  obtain ⟨hcstart, hcsize, hcrate⟩ := hcommitted c rfl
  obtain ⟨hTstart, hTsize, hTrate, hTpos, -⟩ := startedEnd_fields .ok 1 c
  obtain ⟨hlevel, hTeod, i, hi, hscript⟩ := hfeeding.started hfresh hfileLe .ok 1
  obtain ⟨bytes, hrefills, -⟩ := refillTimes_refills Config.primeCycles c
  have hpstart : (primed c).dataStart = c.dataStart := hrefills.kept.field State.dataStart fun _ => rfl
  have hprate : (primed c).sampleRate = c.sampleRate := hrefills.kept.field State.sampleRate fun _ => rfl
  have hpsize : (primed c).dataSize = c.dataSize := hrefills.dataSize
  obtain ⟨hpstate, hie, hbase, hreload, hpos, hsz, hsr⟩ := startedEnd_kept .ok 1 (enabled c)
  obtain ⟨-, -, -, hquietEnd⟩ := hset.passes (passes_startedEnd .ok 1 (enabled c)) hpos
  have hlast : NoTimerStep s (startedEnd .ok 1 (enabled c)) →
      NoTimerStep (enabled c) (startedEnd .ok 1 (enabled c)) := fun hquiet =>
    hquiet.last hdraws (passes_startedEnd .ok 1 (enabled c))
  refine ⟨startedEnd .ok 1 (enabled c), (exec_eq (.play name) s).trans (congrArg _ hrun), rfl, rfl, ?_⟩
  generalize startedEnd .ok 1 (enabled c) = t at *
  have hdataSize : t.dataSize.toNat = size := by rw [hTsize, hpsize, hcsize, hsizeNat]
  have hrateEnd : t.sampleRate.toNat = rate := by rw [hTrate, hprate, hcrate, hrateNat]
  have hcap := hset.pos_le_cap
  have hwithin := hset.pos_le_size
  rw [← hpos] at hcap hwithin
  rw [← hsz, hdataSize] at hwithin
  have hbaseEnd : t.baseReload.toNat = basePeriod s.cfg rate := by
    rw [hbase, hset.base, ← hsr, hrateEnd]
  rw [hcsize, hsizeNat, hfresh.cfg, hcfg] at hlevel
  refine ⟨hpstate.trans hset.pstate, hie.trans hset.ie, hTeod, hTstart.trans (hpstart.trans hcstart), hdataSize,
    hrateEnd, hlevel, le_min hwithin hcap, hbaseEnd, ?_, fun hquiet => ?_⟩
  · rw [hreload, hset.reload, ← hbase, hbaseEnd]
  · exact hquietEnd (hlast (.of_quiet hquiet (j := i) (by omega) hscript))

end Machine

end Sys2Proof
end
